-- ==== Sys2Proof/Word.lean ====
section
/-! DEFINITION. The words of the block: the width of each register, field and port (00_scope.md R8, 10_state.md R20,
20_memory.md R40). Everything is unsigned (00_scope.md R10). -/

namespace Sys2Proof

/-- A command word on the CMD port: 16 bits (30_encoding.md R60, 20_memory.md R40). -/
abbrev CmdWord := BitVec 16

/-- A word on RDATA: 16 bits (20_memory.md R40, R41). -/
abbrev ReadWord := BitVec 16

/-- An address on RADDR: 8 bits (20_memory.md R40, R41). -/
abbrev ReadAddr := BitVec 8

/-- A segment pattern, a = bit 6 to g = bit 0 (10_state.md R22). -/
abbrev Pattern := BitVec 7

/-- The VALUE register: 7 bits, unsigned (10_state.md R23). -/
abbrev Value := BitVec 7

/-- The INTERVAL register: 10 bits, unsigned, milliseconds (10_state.md R26). -/
abbrev Interval := BitVec 10

/-- One history sample: 11 bits, unsigned, in tenths (10_state.md R27, 44_history.md R170). -/
abbrev Sample := BitVec 11

/-- A character string: a list of characters, so that it is plain data the kernel can compute with (log 19). -/
abbrev Text := List Char

end Sys2Proof
end

