-- ==== Sys2Proof/Machine/DigitTable.lean ====
section
/-! DEFINITION. The Digit Table and the pure conversion functions (40_digit_table.md). -/

namespace Sys2Proof.Machine

/-- The LUT ROM (40_digit_table.md R80): entry d is the pattern of digit d. Nothing writes it (10_state.md R30). -/
def lutTable : List Pattern := [0x7E, 0x30, 0x6D, 0x79, 0x33, 0x5B, 0x5F, 0x70, 0x7F, 0x7B]

/-- `LUT(d)` for a digit (40_digit_table.md R81). -/
def lut (d : Fin 10) : Pattern := lutTable.get d

/-- The digit of a number taken modulo 10, as the Counter's rules compute it (42_register_ops.md R125, R126). -/
def digitMod10 (n : Nat) : Fin 10 := ⟨n % 10, Nat.mod_lt n (by decide)⟩

/-- doc00's `lookup`: none where the digit is outside 0 to 9 (40_digit_table.md R81). -/
def lookup (d : Nat) : Option Pattern := lutTable[d]?

/-- `reverseLookup`: the digit whose entry is p, none for NotFound (40_digit_table.md R82). -/
def reverseLookup (p : Pattern) : Option (Fin 10) := (List.finRange 10).find? fun d => lut d == p

/-- Segment i of a pattern, a = 0 to g = 6: register bit 6 - i (10_state.md R22). -/
def segmentBit (p : Pattern) (i : Nat) : Bool := p.getLsbD (6 - i)

/-- `toValue`: the MSB-first binary reading (40_digit_table.md R83). -/
def toValue (p : Pattern) : Nat := ((List.range 7).map fun i => (segmentBit p i).toNat * 2 ^ (6 - i)).sum

/-- `toPattern` on 0 to 127 (40_digit_table.md R84); no rule calls it outside that range (log 16). -/
def toPattern (v : Nat) : Pattern := BitVec.ofNat 7 v

/-- A pattern as its string in segment order a to g (00_scope.md R11). -/
def patternString (p : Pattern) : Text := (List.range 7).map fun i => if segmentBit p i then '1' else '0'

/-- `sanitize` (40_digit_table.md R86): drop, truncate, pad on the right. -/
def sanitize (raw : Text) : Text :=
  let kept := (raw.filter fun c => c == '0' || c == '1').take 7
  kept ++ List.replicate (7 - kept.length) '0'

/-- The number a string of binary digits spells, leftmost digit highest. -/
def binaryNumber (bits : Text) : Nat := bits.foldl (fun n c => 2 * n + if c == '1' then 1 else 0) 0

/-- The LOADPAT operand of a text, `toValue(sanitize(raw))` (40_digit_table.md R86). -/
def textPattern (raw : Text) : Pattern := BitVec.ofNat 7 (binaryNumber (sanitize raw))

/-- VALBCD (40_digit_table.md R87): packed hundreds, tens and units. -/
def valBcd (v : Value) : ReadWord :=
  let h := v.toNat / 100
  let t := v.toNat / 10 % 10
  let u := v.toNat % 10
  (BitVec.ofNat 4 h ++ BitVec.ofNat 4 t ++ BitVec.ofNat 4 u).setWidth 16

/-- DIGITOF (40_digit_table.md R88): the digit, or bit 15 for NotFound. -/
def digitOf (p : Pattern) : ReadWord :=
  match reverseLookup p with
  | some d => BitVec.ofNat 16 d.val
  | none => 0x8000

end Sys2Proof.Machine
end

