-- ==== Sys2Proof/Config.lean ====
section
/-! DEFINITION. What an implementation fixes: the parameters of 00_scope.md R8 at the values this block takes, and the
two parameters a model takes as an argument (RECORD_POLICY, R9; whether the timed refinement is in use,
43_scheduler.md R154, R155). The two arguments are carried by State, since the step's only argument is the state
(logs 1, 5). UNVERIFIED, unsafe: no literal was audited against the repository's code (91_not_in_source.md N2, log 17). -/

namespace Sys2Proof

/-- RECORD_POLICY (00_scope.md R9): which executed commands append a history sample and raise CUE. -/
inductive RecordPolicy where
  /-- Every executed mutation records; a mode transition does not (44_history.md R172). -/
  | perMutation
  /-- A step records exactly when the pair (PATTERN, VALUE) changed (10_state.md R35, 44_history.md R172). -/
  | onRegisterChange
deriving DecidableEq, Repr

/-- The untimed, normative model (43_scheduler.md R154), or the informative timed refinement (R155). -/
inductive Timing where
  | untimed
  | timed
deriving DecidableEq, Repr

/-- ANIM_MOD (00_scope.md R8). -/
abbrev Config.animMod : Nat := 128
/-- COUNT_MOD (00_scope.md R8). -/
abbrev Config.countMod : Nat := 10
/-- INTERVAL_MIN (00_scope.md R8). -/
abbrev Config.intervalMin : Nat := 50
/-- INTERVAL_MAX (00_scope.md R8). -/
abbrev Config.intervalMax : Nat := 1000
/-- INTERVAL_RESET (00_scope.md R8). -/
abbrev Config.intervalReset : Nat := 250
/-- HIST_CAP (00_scope.md R8). -/
abbrev Config.histCap : Nat := 40
/-- COUNTER_SCALE 12.7, held as 127 tenths (00_scope.md R8, 44_history.md R170). -/
abbrev Config.counterScale : Nat := 127
/-- One whole, in tenths: the scale of the binary modes (44_history.md R170). -/
abbrev Config.unitScale : Nat := 10

end Sys2Proof
end

