-- ==== Sys2Proof/Syntax.lean ====
section
/-! DEFINITION. The command set: one constructor per row of spec/opcode_table.json (30_encoding.md R63), its operand
the row's whole bit field (R62). TICK, reads and power-on reset are no command words (R71, R72). -/

namespace Sys2Proof

/-- NAV's direction, from bit B: 0 is +1 and 1 is -1 (30_encoding.md R62). -/
inductive Direction where
  | plus
  | minus
deriving DecidableEq, Repr

/-- A command as the decoder yields it (30_encoding.md R68). An operand may still lie outside its domain (R66): such a
command is ill-formed, and its own rule takes the fault (60_exceptions.md R194, step 4). -/
inductive Instr where
  /-- SELMODE M (41_mode_control.md R102). -/
  | selmode (m : BitVec 2)
  /-- TOGGLE I (42_register_ops.md R121). -/
  | toggle (i : BitVec 3)
  /-- LOADPAT P (42_register_ops.md R122). -/
  | loadpat (p : Pattern)
  /-- STEP (42_register_ops.md R124). -/
  | step
  /-- NAV dir (42_register_ops.md R126). -/
  | nav (dir : Direction)
  /-- RESET (41_mode_control.md R103). -/
  | reset
  /-- SELDIG D (42_register_ops.md R127). -/
  | seldig (d : BitVec 4)
  /-- SETRUN R (43_scheduler.md R152). -/
  | setrun (r : Bool)
  /-- SETIVL N (43_scheduler.md R153). -/
  | setivl (n : Interval)
deriving DecidableEq, Repr

end Sys2Proof
end

