-- ==== Sys2Proof/Machine/State.lean ====
section
/-! DEFINITION. The state of the block (10_state.md R20 to R35), the events of its agents (00_scope.md R7,
20_memory.md R40, R49), what its ports give the host, and the state power-on reset leaves (10_state.md R33). -/

namespace Sys2Proof.Machine

/-- MODE (10_state.md R21). The reserved value 0b11 is never held, so it is no constructor (log 8). -/
inductive Mode where
  | animation
  | manual
  | counter
deriving DecidableEq, Repr

/-- The kind of a CUE event (20_memory.md R40). -/
inductive CueKind where
  | mutation
  | modeChange
deriving DecidableEq, Repr

/-- The export record (20_memory.md R54). -/
structure Snapshot where
  timestamp : Text
  mode : Mode
  decimal : Nat
  binary : Text
deriving DecidableEq, Repr

/-- What one transfer out of the block carries (20_memory.md R40, R54). -/
inductive Output where
  /-- A CUE event: its kind and VALUE. -/
  | cue (kind : CueKind) (value : Value)
  /-- A read's answer on RDATA, with the address it answers. -/
  | readData (addr : ReadAddr) (word : ReadWord)
  /-- An export record the host has built from this state. -/
  | snapshot (record : Snapshot)
deriving DecidableEq, Repr

/-- One event of the order of effect (20_memory.md R49), of whichever agent (00_scope.md R7). -/
inductive Event where
  /-- The host transfers one command word on CMD. -/
  | command (w : CmdWord)
  /-- The host reads one address through RADDR. -/
  | read (addr : ReadAddr)
  /-- The host takes an export snapshot and supplies its timestamp (20_memory.md R54). -/
  | exportState (timestamp : Text)
  /-- The scheduler's turn: a TICK if one is enabled, else nothing (43_scheduler.md R151). -/
  | tick
  /-- TIMEBASE delivers elapsed milliseconds (43_scheduler.md R155, log 5). -/
  | timebase (ms : Nat)
  /-- Power-on reset (70_reset_and_hazards.md R221). -/
  | powerOn
deriving DecidableEq, Repr

/-- No step of this model ends in a fault of the model, so there is no constructor. The block's own faults
(60_exceptions.md R192) are taken: STATUS and FCMD are written and the step answers a next state (log 12). -/
inductive Fault where
deriving DecidableEq, Repr

/-- Why a step has no meaning. Every refusal is SAFE: the run then has no observation. -/
inductive Refusal where
  /-- An arm of exec whose command has no meaning yet; no arm of this model answers it. Safe. -/
  | notModelled (mnemonic : String)
  /-- Raised by a host read of an address the read map does not list (20_memory.md R44). Safe. -/
  | unmappedRead (addr : ReadAddr)
  /-- Raised by a host read of HIST[k] with k not below HLEN, which holds no value (20_memory.md R44). Safe. -/
  | emptyHistoryRead (k : Nat)
deriving DecidableEq, Repr

/-- The state. The first eight fields are the registers of 10_state.md R20 (HLEN is the length of `hist`, log 7; the LUT
is a ROM, log 9); `elapsed` is the hidden counter of R31; the last four are the model's own. -/
structure State where
  /-- MODE (10_state.md R21). -/
  mode : Mode
  /-- PATTERN (10_state.md R22). -/
  pattern : Pattern
  /-- VALUE (10_state.md R23). -/
  value : Value
  /-- RUNNING (10_state.md R25). -/
  running : Bool
  /-- INTERVAL (10_state.md R26). -/
  interval : Interval
  /-- HIST[0] to HIST[HLEN - 1], newest first (10_state.md R27). -/
  hist : List Sample
  /-- STATUS (10_state.md R28). -/
  status : BitVec 16
  /-- FCMD (10_state.md R29). -/
  fcmd : CmdWord
  /-- ELAPSED, in milliseconds; only the timed refinement writes or reads it (10_state.md R31, log 5). -/
  elapsed : Nat
  /-- RECORD_POLICY, a parameter no step writes (00_scope.md R9, log 1). -/
  policy : RecordPolicy
  /-- Whether the timed refinement is in use, a parameter no step writes (log 5). -/
  timing : Timing
  /-- The events still to take effect, the next one first (20_memory.md R49, log 2). -/
  pending : List Event
  /-- What the ports have given the host since power-on, oldest first (20_memory.md R40, log 6). -/
  out : List Output
deriving DecidableEq, Repr

/-- The state power-on reset leaves (10_state.md R33), for either value of the two parameters, with no event pending. -/
def State.powerOn (policy : RecordPolicy) (timing : Timing) : State where
  mode := .animation
  pattern := 0x00
  value := 0
  running := false
  interval := BitVec.ofNat 10 Config.intervalReset
  hist := []
  status := 0x0000
  fcmd := 0x0000
  elapsed := 0
  policy := policy
  timing := timing
  pending := []
  out := []

/-- The machine right after power-on reset (10_state.md R33). DESIGN CHOICE, unsafe: RECORD_POLICY is PerMutation, the
spec's simulator default (log 1), and the model is the untimed, normative one (log 5). -/
def State.reset : State := State.powerOn .perMutation .untimed

end Sys2Proof.Machine
end

