-- ==== Sys2Proof/Machine/Flags.lean ====
section
/-! DEFINITION. The block's two flags and what is computed from them (10_state.md R34): FAULTED and CAUSE of STATUS, the
scheduler's enabling condition, and the mode-legality table. The block has no condition codes. -/

namespace Sys2Proof.Machine

/-- STATUS.FAULTED, and the level of the FAULT output (10_state.md R28, 20_memory.md R40). -/
def State.faulted (s : State) : Bool := s.status.getLsbD 15

/-- STATUS.CAUSE (10_state.md R28). -/
def State.cause (s : State) : BitVec 4 := s.status.extractLsb' 0 4

/-- HLEN (10_state.md R27): how many history entries hold a sample. -/
def State.hlen (s : State) : Nat := s.hist.length

/-- tickEnabled (43_scheduler.md R150). -/
def State.tickEnabled (s : State) : Bool :=
  s.running && (s.mode == .animation || s.mode == .counter) && !s.faulted

/-- Whether a command executes in a mode or is ignored (41_mode_control.md R104). -/
def legal : Instr → Mode → Bool
  | .selmode _, _ => true
  | .reset, _ => true
  | .toggle _, m => m == .manual
  | .loadpat _, m => m == .animation || m == .manual
  | .step, m => m == .animation || m == .counter
  | .nav _, m => m == .counter
  | .seldig _, m => m == .counter
  | .setrun _, m => m == .animation || m == .counter
  | .setivl _, _ => true

end Sys2Proof.Machine
end

