-- ==== Sys2Proof/WellFormed.lean ====
section
/-! DEFINITION. A command is well formed when its operand lies in the domain 30_encoding.md R66 gives it. An ill-formed
command is still a command word: it faults when it is executed. -/

namespace Sys2Proof

/-- The operand's domain (30_encoding.md R66); the other commands have no reserved operand value. -/
def Instr.wellFormed : Instr → Bool
  | .selmode m => m.toNat ≤ 2
  | .toggle i => i.toNat ≤ 6
  | .loadpat _ => true
  | .step => true
  | .nav _ => true
  | .reset => true
  | .seldig d => d.toNat ≤ 9
  | .setrun _ => true
  | .setivl n => Config.intervalMin ≤ n.toNat && n.toNat ≤ Config.intervalMax

end Sys2Proof
end

