-- ==== Sys2Proof/Decode.lean ====
section
/-! DEFINITION. The decoder (30_encoding.md R63 to R65, R68), total on every 16-bit word, and the encoder, written from
the same opcode map. A command word is taken whole: no byte order arises (20_memory.md R45). -/

namespace Sys2Proof

/-- The cause codes (60_exceptions.md R191). NONE (0) is the absence of a fault and is no cause here. -/
inductive Cause where
  | reservedOpcode
  | reservedBits
  | reservedMode
  | indexOutOfRange
  | digitOutOfRange
  | intervalOutOfRange
deriving DecidableEq, Repr

/-- The code STATUS.CAUSE holds (60_exceptions.md R191). -/
def Cause.code : Cause → BitVec 4
  | .reservedOpcode => 1
  | .reservedBits => 2
  | .reservedMode => 3
  | .indexOutOfRange => 4
  | .digitOutOfRange => 5
  | .intervalOutOfRange => 6

/-- One row of the opcode map: the opcode, the word's fixed part, the mask of the fixed part, and the command the
operand field of a word spells. -/
structure Row where
  op : BitVec 4
  fixed : CmdWord
  mask : CmdWord
  build : CmdWord → Instr

/-- NAV's operand (30_encoding.md R62). -/
def directionOfBit (b : Bool) : Direction := if b then .minus else .plus

/-- The opcode map (30_encoding.md R63), the operands as R61 and R62 place them. -/
def opcodeMap : List Row :=
  [ ⟨0x1, 0x1000, 0xFFFC, fun w => .selmode (w.extractLsb' 0 2)⟩,
    ⟨0x2, 0x2000, 0xFFF8, fun w => .toggle (w.extractLsb' 0 3)⟩,
    ⟨0x3, 0x3000, 0xFF80, fun w => .loadpat (w.extractLsb' 0 7)⟩,
    ⟨0x4, 0x4000, 0xFFFF, fun _ => .step⟩,
    ⟨0x5, 0x5000, 0xFFFE, fun w => .nav (directionOfBit (w.getLsbD 0))⟩,
    ⟨0x6, 0x6000, 0xFFFF, fun _ => .reset⟩,
    ⟨0x7, 0x7000, 0xFFF0, fun w => .seldig (w.extractLsb' 0 4)⟩,
    ⟨0x8, 0x8000, 0xFFFE, fun w => .setrun (w.getLsbD 0)⟩,
    ⟨0x9, 0x9000, 0xFC00, fun w => .setivl (w.extractLsb' 0 10)⟩ ]

/-- Bits 15:12 of a word (30_encoding.md R60). -/
def opcodeOf (w : CmdWord) : BitVec 4 := w.extractLsb' 12 4

/-- The row of an opcode; none for 0x0 and 0xA to 0xF (30_encoding.md R64). -/
def rowOf (op : BitVec 4) : Option Row := opcodeMap.find? fun r => r.op == op

/-- The decoder (30_encoding.md R68): a command, or the fault its opcode or its reserved bits raise. -/
def decode (w : CmdWord) : Except Cause Instr :=
  match rowOf (opcodeOf w) with
  | none => .error .reservedOpcode
  | some r => if w &&& r.mask = r.fixed then .ok (r.build w) else .error .reservedBits

/-- NAV's bit B (30_encoding.md R62). -/
def bitOfDirection : Direction → Bool
  | .plus => false
  | .minus => true

/-- The word of a command: the row's fixed part with the operand in its field (30_encoding.md R61 to R63). It is also
what FCMD records when the command faults (60_exceptions.md R192, log 10). -/
def encode : Instr → CmdWord
  | .selmode m => 0x1000 ||| m.setWidth 16
  | .toggle i => 0x2000 ||| i.setWidth 16
  | .loadpat p => 0x3000 ||| p.setWidth 16
  | .step => 0x4000
  | .nav dir => 0x5000 ||| (BitVec.ofBool (bitOfDirection dir)).setWidth 16
  | .reset => 0x6000
  | .seldig d => 0x7000 ||| d.setWidth 16
  | .setrun r => 0x8000 ||| (BitVec.ofBool r).setWidth 16
  | .setivl n => 0x9000 ||| n.setWidth 16

/-- The host's question: the instruction the decoder reads from a word of nbits bits, the bits above them 0. -/
def decodeTableWord (nbits w : Nat) : Option Instr :=
  match decode (BitVec.ofNat 16 (w % 2 ^ nbits)) with
  | .ok i => some i
  | .error _ => none

end Sys2Proof
end

