-- ==== Sys2Proof/Machine/Operands.lean ====
section
/-! DEFINITION. The operand forms (30_encoding.md R62) with the domain check of each (R66): what the field stands for, or
the cause of the fault it raises. -/

namespace Sys2Proof.Machine

/-- The encoding of MODE (10_state.md R21). -/
def Mode.code : Mode → BitVec 2
  | .animation => 0
  | .manual => 1
  | .counter => 2

/-- SELMODE's M: a mode, or RESERVED_MODE for 3 (30_encoding.md R66). -/
def modeOperand (m : BitVec 2) : Except Cause Mode :=
  if m = 0 then .ok .animation
  else if m = 1 then .ok .manual
  else if m = 2 then .ok .counter
  else .error .reservedMode

/-- TOGGLE's I: a segment index, or INDEX_OUT_OF_RANGE for 7 (30_encoding.md R66). -/
def segmentOperand (i : BitVec 3) : Except Cause (Fin 7) :=
  if h : i.toNat < 7 then .ok ⟨i.toNat, h⟩ else .error .indexOutOfRange

/-- SELDIG's D: a digit, or DIGIT_OUT_OF_RANGE for 10 to 15 (30_encoding.md R66). -/
def digitOperand (d : BitVec 4) : Except Cause (Fin 10) :=
  if h : d.toNat < 10 then .ok ⟨d.toNat, h⟩ else .error .digitOutOfRange

/-- SETIVL's N: an interval of 50 to 1000, else INTERVAL_OUT_OF_RANGE (30_encoding.md R66). -/
def intervalOperand (n : Interval) : Except Cause Interval :=
  if Config.intervalMin ≤ n.toNat ∧ n.toNat ≤ Config.intervalMax then .ok n else .error .intervalOutOfRange

/-- NAV's direction as the number its rule adds before the modulus: dir + 10, never negative (42_register_ops.md R126). -/
def navOffset : Direction → Nat
  | .plus => 11
  | .minus => 9

end Sys2Proof.Machine
end

