-- ==== Sys2Proof/Machine/Ops.lean ====
section
/-! DEFINITION. The named operations on State: one setter per register or group of registers written together, raising an
output, taking a fault, power-on reset (the only way out of a fault), and the order of checks every command goes through.
-/

namespace Sys2Proof.Machine

/-- Write MODE. -/
def State.setMode (s : State) (m : Mode) : State := { s with mode := m }

/-- Write PATTERN and VALUE together (10_state.md R23). -/
def State.setRegister (s : State) (p : Pattern) (v : Nat) : State :=
  { s with pattern := p, value := BitVec.ofNat 7 v }

/-- Write RUNNING. -/
def State.setRunning (s : State) (r : Bool) : State := { s with running := r }

/-- Write INTERVAL. -/
def State.setInterval (s : State) (n : Interval) : State := { s with interval := n }

/-- Write HIST and HLEN. -/
def State.setHist (s : State) (h : List Sample) : State := { s with hist := h }

/-- Write STATUS and FCMD. -/
def State.setFault (s : State) (status : BitVec 16) (fcmd : CmdWord) : State :=
  { s with status := status, fcmd := fcmd }

/-- Write ELAPSED. -/
def State.setElapsed (s : State) (t : Nat) : State := { s with elapsed := t }

/-- Set what is still to take effect. -/
def State.setPending (s : State) (es : List Event) : State := { s with pending := es }

/-- Give the host one more output. -/
def State.emit (s : State) (o : Output) : State := { s with out := s.out ++ [o] }

/-- `cue(kind, VALUE)` (00_scope.md R12, 20_memory.md R40). -/
def State.cue (s : State) (kind : CueKind) : State := s.emit (.cue kind s.value)

/-- The STATUS word of a fault: FAULTED = 1 and the cause (60_exceptions.md R192). -/
def faultStatus (c : Cause) : BitVec 16 := 0x8000 ||| c.code.setWidth 16

/-- Fault entry, `raise Fault(c)` for the command word w (60_exceptions.md R192). No command returns from it (R197). -/
def raiseFault (c : Cause) (w : CmdWord) (s : State) : State := s.setFault (faultStatus c) w

/-- Power-on reset (70_reset_and_hazards.md R221): every piece of state at its POR value. The parameters stay, and so do
the events ordered after it (log 20). -/
def powerOnReset (s : State) : State := (State.powerOn s.policy s.timing).setPending s.pending

/-- The checks of 60_exceptions.md R194 that follow decoding, for the decoded command i: ignored when FAULTED; its operand
out of its domain faults with the command word; illegal in MODE it is ignored (41_mode_control.md R105); otherwise its
effect, on the checked operand. -/
def runCommand {α : Type} (i : Instr) (operand : Except Cause α) (effect : α → State → State) (s : State) : State :=
  if s.faulted then s
  else match operand with
    | .error c => raiseFault c (encode i) s
    | .ok a => if legal i s.mode then effect a s else s

end Sys2Proof.Machine
end

