-- ==== Sys2Proof/Machine/History.lean ====
section
/-! DEFINITION. The History Buffer (44_history.md): the sample of a value, recording it, and what runs at the end of every
command or TICK that writes the register. -/

namespace Sys2Proof.Machine

/-- The kind of a register write (44_history.md R172). -/
inductive WriteKind where
  | op
  | transition
deriving DecidableEq, Repr

/-- `sample(v, m)` in tenths (44_history.md R170). -/
def sample (v : Nat) (m : Mode) : Sample :=
  BitVec.ofNat 11 (match m with
    | .counter => Config.counterScale * v
    | .animation => Config.unitScale * v
    | .manual => Config.unitScale * v)

/-- `record(v, m)` (44_history.md R171): put the sample in front, keep the newest 40. -/
def record (v : Nat) (m : Mode) (s : State) : State := s.setHist ((sample v m :: s.hist).take Config.histCap)

/-- Whether a register write of this kind records, from the pair before it (44_history.md R172). -/
def recordFires (kind : WriteKind) (oldP : Pattern) (oldV : Value) (s : State) : Bool :=
  match s.policy with
  | .perMutation => kind == .op
  | .onRegisterChange => s.pattern != oldP || s.value != oldV

/-- `afterWrite(kind, oldP, oldV)` (44_history.md R172), on the state after the write. -/
def afterWrite (kind : WriteKind) (oldP : Pattern) (oldV : Value) (s : State) : State :=
  if recordFires kind oldP oldV s then (record s.value.toNat s.mode s).cue .mutation else s

/-- Write the register and run `afterWrite` with the pair from before the write (42_register_ops.md R120). -/
def mutate (p : Pattern) (v : Nat) (s : State) : State :=
  afterWrite .op s.pattern s.value (s.setRegister p v)

end Sys2Proof.Machine
end

