-- ==== Sys2Proof/Machine/ModeControl.lean ====
section
/-! DEFINITION. The mode state machine (41_mode_control.md): SELMODE and RESET. -/

namespace Sys2Proof.Machine

/-- The pattern of `defaultRegister(m)`; its value is 0 in every mode (41_mode_control.md R101). -/
def defaultPattern : Mode → Pattern
  | .counter => lut 0
  | .animation => 0x00
  | .manual => 0x00

/-- SELMODE's effect (41_mode_control.md R102). -/
def selectMode (m : Mode) (s : State) : State :=
  afterWrite .transition s.pattern s.value
    ((((s.setMode m).setRunning false).setRegister (defaultPattern m) 0).cue .modeChange)

/-- RESET's effect (41_mode_control.md R103). -/
def resetRegister (s : State) : State := mutate (defaultPattern s.mode) 0 (s.setRunning false)

/-- SELMODE M (41_mode_control.md R102). -/
def execSelmode (m : BitVec 2) (s : State) : Host.Outcome State Fault Refusal :=
  .next (runCommand (.selmode m) (modeOperand m) selectMode s)

/-- RESET (41_mode_control.md R103). -/
def execReset (s : State) : Host.Outcome State Fault Refusal :=
  .next (runCommand .reset (.ok ()) (fun _ => resetRegister) s)

end Sys2Proof.Machine
end

