-- ==== Sys2Proof/Machine/RegisterOps.lean ====
section
/-! DEFINITION. The pattern and register operations (42_register_ops.md): TOGGLE, LOADPAT, STEP, NAV and SELDIG. -/

namespace Sys2Proof.Machine

/-- TOGGLE's effect (42_register_ops.md R121): flip register bit 6 - i. -/
def toggleSegment (i : Fin 7) (s : State) : State :=
  let p := s.pattern ^^^ (1#7 <<< (6 - i.val))
  mutate p (toValue p) s

/-- LOADPAT's effect (42_register_ops.md R122). -/
def loadPattern (p : Pattern) (s : State) : State := mutate p (toValue p) s

/-- `stepFn` (42_register_ops.md R125). It is never called in Manual mode, where it leaves the register alone (log 16). -/
def stepFn (s : State) : State :=
  match s.mode with
  | .animation =>
    let v := (s.value.toNat + 1) % Config.animMod
    s.setRegister (toPattern v) v
  | .counter =>
    let v := digitMod10 (s.value.toNat + 1)
    s.setRegister (lut v) v.val
  | .manual => s

/-- One step of the register with its `afterWrite`, shared by STEP and TICK (42_register_ops.md R124, 43_scheduler.md
R151). -/
def stepRegister (s : State) : State := afterWrite .op s.pattern s.value (stepFn s)

/-- NAV's effect (42_register_ops.md R126). -/
def navigate (dir : Direction) (s : State) : State :=
  let v := digitMod10 (s.value.toNat + navOffset dir)
  mutate (lut v) v.val s

/-- SELDIG's effect (42_register_ops.md R127). -/
def selectDigit (d : Fin 10) (s : State) : State := mutate (lut d) d.val s

/-- TOGGLE I (42_register_ops.md R121). -/
def execToggle (i : BitVec 3) (s : State) : Host.Outcome State Fault Refusal :=
  .next (runCommand (.toggle i) (segmentOperand i) toggleSegment s)

/-- LOADPAT P (42_register_ops.md R122, R123). -/
def execLoadpat (p : Pattern) (s : State) : Host.Outcome State Fault Refusal :=
  .next (runCommand (.loadpat p) (.ok p) loadPattern s)

/-- STEP (42_register_ops.md R124). -/
def execStep (s : State) : Host.Outcome State Fault Refusal :=
  .next (runCommand .step (.ok ()) (fun _ => stepRegister) s)

/-- NAV dir (42_register_ops.md R126). -/
def execNav (dir : Direction) (s : State) : Host.Outcome State Fault Refusal :=
  .next (runCommand (.nav dir) (.ok dir) navigate s)

/-- SELDIG D (42_register_ops.md R127). -/
def execSeldig (d : BitVec 4) (s : State) : Host.Outcome State Fault Refusal :=
  .next (runCommand (.seldig d) (digitOperand d) selectDigit s)

end Sys2Proof.Machine
end

