-- ==== Sys2Proof/Machine/Scheduler.lean ====
section
/-! DEFINITION. The stepper and scheduler (43_scheduler.md): SETRUN, SETIVL, TICK, and the timed refinement's ELAPSED
(R155), which every operation leaves alone in the untimed model. -/

namespace Sys2Proof.Machine

/-- In the timed refinement, ELAPSED is set to 0 (43_scheduler.md R155). -/
def restartElapsed (s : State) : State :=
  match s.timing with
  | .untimed => s
  | .timed => s.setElapsed 0

/-- SETRUN's effect (43_scheduler.md R152). In the timed refinement ELAPSED restarts when RUNNING goes from 0 to 1, and
only then (R155). -/
def setRunFlag (r : Bool) (s : State) : State :=
  if r && !s.running then restartElapsed (s.setRunning r) else s.setRunning r

/-- SETIVL's effect (43_scheduler.md R153). -/
def storeInterval (n : Interval) (s : State) : State := s.setInterval n

/-- SETRUN R (43_scheduler.md R152). -/
def execSetrun (r : Bool) (s : State) : Host.Outcome State Fault Refusal :=
  .next (runCommand (.setrun r) (.ok r) setRunFlag s)

/-- SETIVL N (43_scheduler.md R153). -/
def execSetivl (n : Interval) (s : State) : Host.Outcome State Fault Refusal :=
  .next (runCommand (.setivl n) (intervalOperand n) storeInterval s)

/-- Whether the scheduler has a TICK step now: tickEnabled (43_scheduler.md R150), and in the timed refinement
ELAPSED ≥ INTERVAL as well (R155). -/
def State.tickDue (s : State) : Bool :=
  s.tickEnabled && (match s.timing with
    | .untimed => true
    | .timed => decide (s.interval.toNat ≤ s.elapsed))

/-- The scheduler's turn (43_scheduler.md R151): TICK if it has that step, else the tick is discarded. In the timed
refinement TICK sets ELAPSED to 0 (R155). -/
def schedulerTurn (s : State) : State := if s.tickDue then restartElapsed (stepRegister s) else s

/-- A TIMEBASE event of ms milliseconds (43_scheduler.md R155); the untimed model does not use it. -/
def timebaseEvent (ms : Nat) (s : State) : State :=
  match s.timing with
  | .untimed => s
  | .timed => if s.running && !s.faulted then s.setElapsed (s.elapsed + ms) else s

end Sys2Proof.Machine
end

