-- ==== Sys2Proof/Machine/Dispatch.lean ====
section
/-! DEFINITION. One arm per command: each calls the meaning of its instruction. -/

namespace Sys2Proof.Machine

def exec (i : Instr) (s : State) : Host.Outcome State Fault Refusal :=
  match i with
  | .selmode m => Sys2Proof.Machine.execSelmode m s
  | .toggle idx => Sys2Proof.Machine.execToggle idx s
  | .loadpat p => Sys2Proof.Machine.execLoadpat p s
  | .step => Sys2Proof.Machine.execStep s
  | .nav dir => Sys2Proof.Machine.execNav dir s
  | .reset => Sys2Proof.Machine.execReset s
  | .seldig d => Sys2Proof.Machine.execSeldig d s
  | .setrun r => Sys2Proof.Machine.execSetrun r s
  | .setivl n => Sys2Proof.Machine.execSetivl n s

end Sys2Proof.Machine
end

