-- ==== Sys2Proof/Machine/Ports.lean ====
section
/-! DEFINITION. The read port and the export snapshot (20_memory.md R41 to R44, R54). -/

namespace Sys2Proof.Machine

/-- The read map (20_memory.md R41), each word zero-extended (R42); a read the host must not issue is refused (R44). -/
def readMap (addr : ReadAddr) (s : State) : Except Refusal ReadWord :=
  let a := addr.toNat
  if a = 0x00 then .ok (s.mode.code.setWidth 16)
  else if a = 0x01 then .ok (s.pattern.setWidth 16)
  else if a = 0x02 then .ok (s.value.setWidth 16)
  else if a = 0x03 then .ok ((BitVec.ofBool s.running).setWidth 16)
  else if a = 0x04 then .ok (s.interval.setWidth 16)
  else if a = 0x05 then .ok (BitVec.ofNat 16 s.hlen)
  else if a = 0x06 then .ok (s.status &&& 0x800F)
  else if a = 0x07 then .ok s.fcmd
  else if a = 0x08 then .ok (digitOf s.pattern)
  else if a = 0x09 then .ok (valBcd s.value)
  else if 0x10 ≤ a ∧ a < 0x38 then
    match s.hist[a - 0x10]? with
    | some h => .ok (h.setWidth 16)
    | none => .error (.emptyHistoryRead (a - 0x10))
  else if 0x40 ≤ a then
    match lookup (a - 0x40) with
    | some p => .ok (p.setWidth 16)
    | none => .error (.unmappedRead addr)
  else .error (.unmappedRead addr)

/-- One host read (20_memory.md R43): the word goes out on RDATA and no register changes; a refused read ends the run. -/
def hostRead (addr : ReadAddr) (s : State) : Host.Outcome State Fault Refusal :=
  match readMap addr s with
  | .ok w => .next (s.emit (.readData addr w))
  | .error r => .refused r

/-- The export record of this state, the timestamp supplied by the host (20_memory.md R54). -/
def snapshot (timestamp : Text) (s : State) : Snapshot where
  timestamp := timestamp
  mode := s.mode
  decimal := s.value.toNat
  binary := patternString s.pattern

/-- One export: the record goes to the host and no register changes (20_memory.md R54). -/
def hostExport (timestamp : Text) (s : State) : State := s.emit (.snapshot (snapshot timestamp s))

end Sys2Proof.Machine
end

