-- ==== Sys2Proof/Machine/CommandPort.lean ====
section
/-! DEFINITION. What takes effect at one place of the order of effect (20_memory.md R49): a command word on the CMD port
with the checks of 60_exceptions.md R194, or another event of the host, the scheduler or the time base. -/

namespace Sys2Proof.Machine

/-- One command word (60_exceptions.md R194): ignored undecoded while FAULTED (R193), a fault if it spells no command,
else the decoded command. -/
def submit (w : CmdWord) (s : State) : Host.Outcome State Fault Refusal :=
  if s.faulted then .next s
  else match decode w with
    | .error c => .next (raiseFault c w s)
    | .ok i => exec i s

/-- The effect of one event. -/
def deliver (e : Event) (s : State) : Host.Outcome State Fault Refusal :=
  match e with
  | .command w => submit w s
  | .read addr => hostRead addr s
  | .exportState timestamp => .next (hostExport timestamp s)
  | .tick => .next (schedulerTurn s)
  | .timebase ms => .next (timebaseEvent ms s)
  | .powerOn => .next (powerOnReset s)

/-- One place of the order of effect: the next pending event; with none pending it is the scheduler's turn, which leaves
an idle block as it is (43_scheduler.md R154, 60_exceptions.md R204, log 3). -/
def takeEffect (s : State) : Host.Outcome State Fault Refusal :=
  match s.pending with
  | [] => .next (schedulerTurn s)
  | e :: rest => deliver e (s.setPending rest)

/-- The host sends these command words, after everything already pending (70_reset_and_hazards.md R228). -/
def State.withProgram (s : State) (words : List CmdWord) : State :=
  s.setPending (s.pending ++ words.map .command)

end Sys2Proof.Machine
end

