-- ==== Sys2Proof/Machine/Step.lean ====
section
/-! DEFINITION. The step of the machine, and the host's way to have the very next step run one command word. -/

namespace Sys2Proof.Machine

/-- One atomic step (00_scope.md R13). -/
def step (s : State) : Host.Outcome State Fault Refusal := takeEffect s

/-- The host transfers this command word next, before everything else pending (log 4). -/
def State.withFetchWord (s : State) (nbits w : Nat) : State :=
  s.setPending (.command (BitVec.ofNat 16 (w % 2 ^ nbits)) :: s.pending)

end Sys2Proof.Machine
end

