-- ==== Sys2Proof/Machine/Assembler.lean ====
section
/-! DEFINITION. The host's assembler (30_encoding.md R69, R70): one line of text to one command word. It is no part of the
block. What R69 leaves open (white space, how a number is spelled, quoting) is log 15. -/

namespace Sys2Proof.Machine

/-- The word `LOADTXT` sends for a text (30_encoding.md R70, 40_digit_table.md R86). -/
def loadTextWord (raw : Text) : CmdWord := encode (.loadpat (textPattern raw))

/-- What a line assembles to. -/
inductive AsmLine where
  /-- A line with no command: white space or a comment only. -/
  | blank
  /-- A line that spells one command word. -/
  | word (w : CmdWord)
  /-- A line the assembler rejects (30_encoding.md R69). -/
  | rejected
deriving DecidableEq, Repr

/-- White space inside a line. -/
def isBlank (c : Char) : Bool := c == ' ' || c == '\t' || c == '\r'

/-- The text without white space at its start. -/
def skipBlanks (t : Text) : Text := t.dropWhile isBlank

/-- The text without white space at either end. -/
def trimBlanks (t : Text) : Text := (skipBlanks (skipBlanks t).reverse).reverse

/-- The text up to the comment (30_encoding.md R69). -/
def dropComment (t : Text) : Text := t.takeWhile (· != ';')

/-- A capital letter's small letter: mnemonics are case-insensitive (30_encoding.md R69). -/
def lowerChar (c : Char) : Char := if 'A' ≤ c ∧ c ≤ 'Z' then Char.ofNat (c.toNat + 32) else c

/-- The value of a digit below the base, none for any other character. -/
def digitValue (base : Nat) (c : Char) : Option Nat :=
  let l := lowerChar c
  let n := if '0' ≤ l ∧ l ≤ '9' then some (l.toNat - '0'.toNat)
    else if 'a' ≤ l ∧ l ≤ 'f' then some (l.toNat - 'a'.toNat + 10) else none
  n.filter (· < base)

/-- The digits of a number so far n, most significant first. -/
def digitsFrom (base : Nat) : Nat → Text → Option Nat
  | n, [] => some n
  | n, c :: cs => (digitValue base c).bind fun d => digitsFrom base (n * base + d) cs

/-- A number: decimal, or hexadecimal after 0x (log 15). -/
def numberOf (t : Text) : Option Nat :=
  match t with
  | '0' :: 'x' :: c :: cs => digitsFrom 16 0 (c :: cs)
  | c :: cs => digitsFrom 10 0 (c :: cs)
  | [] => none

/-- A number at most `hi` and at least `lo`. -/
def numberIn (lo hi : Nat) (t : Text) : Option Nat := (numberOf t).filter fun n => lo ≤ n && n ≤ hi

/-- SELMODE's operand (30_encoding.md R69). -/
def modeText (t : Text) : Option Nat :=
  if t = "animation".toList then some 0
  else if t = "manual".toList then some 1
  else if t = "counter".toList then some 2
  else numberIn 0 2 t

/-- TOGGLE's operand (30_encoding.md R69): a segment letter a to g, or a number 0 to 6. -/
def segmentText (t : Text) : Option Nat :=
  match t with
  | [c] => if 'a' ≤ c ∧ c ≤ 'g' then some (c.toNat - 'a'.toNat) else numberIn 0 6 t
  | _ => numberIn 0 6 t

/-- LOADPAT's operand (30_encoding.md R69): 0b and seven binary digits in a to g order, or a number 0 to 127. -/
def patternText (t : Text) : Option Nat :=
  match t with
  | '0' :: 'b' :: bits =>
    if bits.length = 7 ∧ bits.all (fun c => c == '0' || c == '1') then some (binaryNumber bits) else none
  | _ => numberIn 0 127 t

/-- NAV's operand (30_encoding.md R69). -/
def directionText (t : Text) : Option Direction :=
  if t = "+1".toList then some .plus else if t = "-1".toList then some .minus else none

/-- The command of a mnemonic (in small letters) and its trimmed operand text: R69's table, and the pseudo-instructions of
R70 whose operand is no quoted text. -/
def commandText (mnemonic operand : Text) : Option CmdWord :=
  let plain (i : Instr) : Option CmdWord := if operand = [] then some (encode i) else none
  if mnemonic = "selmode".toList then (modeText operand).map fun n => encode (.selmode (BitVec.ofNat 2 n))
  else if mnemonic = "toggle".toList then (segmentText operand).map fun n => encode (.toggle (BitVec.ofNat 3 n))
  else if mnemonic = "loadpat".toList then (patternText operand).map fun n => encode (.loadpat (BitVec.ofNat 7 n))
  else if mnemonic = "step".toList then plain .step
  else if mnemonic = "nav".toList then (directionText operand).map fun d => encode (.nav d)
  else if mnemonic = "reset".toList then plain .reset
  else if mnemonic = "seldig".toList then (numberIn 0 9 operand).map fun n => encode (.seldig (BitVec.ofNat 4 n))
  else if mnemonic = "setrun".toList then (numberIn 0 1 operand).map fun n => encode (.setrun (n == 1))
  else if mnemonic = "setivl".toList then
    (numberIn Config.intervalMin Config.intervalMax operand).map fun n => encode (.setivl (BitVec.ofNat 10 n))
  else if mnemonic = "next".toList then plain (.nav .plus)
  else if mnemonic = "prev".toList then plain (.nav .minus)
  else if mnemonic = "start".toList then plain (.setrun true)
  else if mnemonic = "stop".toList then plain (.setrun false)
  else if mnemonic = ".word".toList then (numberIn 0 0xFFFF operand).map fun n => BitVec.ofNat 16 n
  else none

/-- LOADTXT's quoted text (30_encoding.md R70), with nothing but a comment after the closing quote. -/
def quotedText (t : Text) : Option Text :=
  match t with
  | '"' :: rest =>
    match rest.dropWhile (· != '"') with
    | _ :: after => if trimBlanks (dropComment after) = [] then some (rest.takeWhile (· != '"')) else none
    | [] => none
  | _ => none

/-- One line of assembly (30_encoding.md R69, R70). -/
def assembleLine (line : Text) : AsmLine :=
  let t := skipBlanks line
  let isWordChar (c : Char) : Bool := !(isBlank c || c == ';')
  let mnemonic := (t.takeWhile isWordChar).map lowerChar
  let rest := skipBlanks (t.dropWhile isWordChar)
  let result :=
    if mnemonic = "loadtxt".toList then (quotedText rest).map loadTextWord
    else commandText mnemonic (trimBlanks (dropComment rest))
  if mnemonic = [] then .blank else match result with
    | some w => .word w
    | none => .rejected

/-- A program: one command per line (30_encoding.md R69); none if some line is rejected. -/
def assemble : List Text → Option (List CmdWord)
  | [] => some []
  | line :: lines =>
    match assembleLine line with
    | .blank => assemble lines
    | .word w => (assemble lines).map (w :: ·)
    | .rejected => none

end Sys2Proof.Machine
end

