-- ==== Sys2Proof/Safety.lean ====
section
/-! DEFINITION. What holds of every state a run reaches (the invariants the spec states), when a run is over, and the
frames claims are stated with: which registers an instruction leaves alone. -/

namespace Sys2Proof.Machine

/-- The mode invariant (10_state.md R24). -/
abbrev State.ModeInv (s : State) : Prop :=
  (s.mode = .animation → s.value.toNat ≤ 127 ∧ s.pattern = toPattern s.value.toNat) ∧
  (s.mode = .manual → s.value.toNat ≤ 127 ∧ s.value.toNat = toValue s.pattern) ∧
  (s.mode = .counter → s.value.toNat ≤ 9 ∧ lookup s.value.toNat = some s.pattern)

/-- RUNNING is 0 in Manual mode (10_state.md R25), and INTERVAL lies in 50 to 1000 (R26). -/
abbrev State.ControlInv (s : State) : Prop :=
  (s.mode = .manual → s.running = false) ∧ 50 ≤ s.interval.toNat ∧ s.interval.toNat ≤ 1000

/-- At most 40 history entries (44_history.md R175), each 0 to 1270 tenths (10_state.md R20). -/
abbrev State.HistoryInv (s : State) : Prop :=
  s.hlen ≤ 40 ∧ ∀ x ∈ s.hist, x.toNat ≤ 1270

/-- STATUS and FCMD (10_state.md R28, R29): the reserved bits are 0, both words are 0 while FAULTED = 0, and a fault has
one of the six causes. -/
abbrev State.FaultInv (s : State) : Prop :=
  s.status &&& 0x7FF0 = 0 ∧
  (s.faulted = false → s.status = 0 ∧ s.fcmd = 0) ∧
  (s.faulted = true → 1 ≤ s.cause.toNat ∧ s.cause.toNat ≤ 6)

/-- The four together. -/
abbrev State.Inv (s : State) : Prop := s.ModeInv ∧ s.ControlInv ∧ s.HistoryInv ∧ s.FaultInv

/-- The run is over (70_reset_and_hazards.md R228): the last event has taken effect and no TICK is enabled. -/
def State.runOver (s : State) : Bool := s.pending.isEmpty && !s.tickEnabled

/-- An end state a claim may rest on: the run is over and the block is not faulted (60_exceptions.md R193). -/
def State.goodEnd (s : State) : Bool := s.runOver && !s.faulted

/-- No command and no TICK writes the model's parameters or what is still pending. -/
abbrev State.SameModel (s t : State) : Prop :=
  t.policy = s.policy ∧ t.timing = s.timing ∧ t.pending = s.pending

/-- The frame of the register operations (42_register_ops.md R120): MODE, RUNNING, INTERVAL, STATUS, FCMD and ELAPSED are
as before, and so are the model's parameters. What is left is PATTERN, VALUE, the history and the outputs. -/
abbrev State.SameControl (s t : State) : Prop :=
  t.mode = s.mode ∧ t.running = s.running ∧ t.interval = s.interval ∧ t.status = s.status ∧ t.fcmd = s.fcmd ∧
  t.elapsed = s.elapsed ∧ s.SameModel t

/-- All the registers of 10_state.md R20 are as before, and ELAPSED (R31). -/
abbrev State.SameRegisters (s t : State) : Prop :=
  t.mode = s.mode ∧ t.pattern = s.pattern ∧ t.value = s.value ∧ t.running = s.running ∧ t.interval = s.interval ∧
  t.hist = s.hist ∧ t.status = s.status ∧ t.fcmd = s.fcmd ∧ t.elapsed = s.elapsed

/-- The step from s to t has recorded the sample v and raised the Mutation event of t's VALUE, and nothing more
(44_history.md R171, R172). -/
abbrev State.Recorded (s t : State) (v : Sample) : Prop :=
  t.hist = (v :: s.hist).take 40 ∧ t.out = s.out ++ [.cue .mutation t.value]

/-- The step from s to t has recorded nothing and given the host nothing. -/
abbrev State.Unrecorded (s t : State) : Prop := t.hist = s.hist ∧ t.out = s.out

end Sys2Proof.Machine
end

