-- ==== Sys2Proof/Certificates/Slice0/Obligations.lean ====
section
/-! DEFINITION. The statements for the provers. Each is about every state, unless it names one; each says what a numbered
rule of spec/ says, or what follows from the rules its docstring names. -/

open Sys2Proof Sys2Proof.Machine

/-! ### Reset and the invariants -/

/-- 10_state.md R33: every POR value, for either value of the model's two parameters; State.reset is that state for its
own parameters. -/
def Obligations.PowerOnResetValues : Prop :=
  (∀ (policy : RecordPolicy) (timing : Timing),
    let s := State.powerOn policy timing
    s.mode = .animation ∧ s.pattern = 0x00 ∧ s.value = 0 ∧ s.running = false ∧ s.interval = 250 ∧ s.hlen = 0 ∧
    s.hist = [] ∧ s.status = 0x0000 ∧ s.fcmd = 0x0000 ∧ s.elapsed = 0 ∧ s.out = [] ∧ s.ModeInv) ∧
  (List.finRange 10).map lut = [0x7E, 0x30, 0x6D, 0x79, 0x33, 0x5B, 0x5F, 0x70, 0x7F, 0x7B] ∧
  State.reset = State.powerOn State.reset.policy State.reset.timing

/-- 70_reset_and_hazards.md R221. That the parameters and the events ordered later stay is the model's choice (log 20). -/
def Obligations.PowerOnEventRestoresReset : Prop :=
  ∀ (s : State) (rest : List Event), s.pending = .powerOn :: rest →
    step s = .next { State.powerOn s.policy s.timing with pending := rest }

/-- The invariants hold after power-on reset (10_state.md R24 to R29, 44_history.md R175). -/
def Obligations.InvariantsHoldAtPowerOn : Prop :=
  State.reset.Inv ∧ ∀ (policy : RecordPolicy) (timing : Timing), (State.powerOn policy timing).Inv

/-- 10_state.md R24: power-on reset establishes the mode invariant and no step leaves it; under it VALUE and PATTERN are
the same number in Animation and Manual. -/
def Obligations.StepKeepsModeInvariant : Prop :=
  (∀ (policy : RecordPolicy) (timing : Timing), (State.powerOn policy timing).ModeInv) ∧
  (∀ s t : State, s.ModeInv → step s = .next t → t.ModeInv) ∧
  (∀ s : State, s.ModeInv → s.mode ≠ .counter → s.pattern = s.value)

/-- 10_state.md R25, R26: RUNNING stays 0 in Manual mode, and INTERVAL stays within 50 to 1000. -/
def Obligations.StepKeepsControlInvariant : Prop :=
  ∀ s t : State, s.ControlInv → step s = .next t → t.ControlInv

/-- 44_history.md R175, 10_state.md R20: the history never exceeds 40 entries, and each entry is at most 1270 tenths. -/
def Obligations.StepKeepsHistoryInvariant : Prop :=
  ∀ s t : State, s.HistoryInv → step s = .next t → t.HistoryInv

/-- 10_state.md R28, R29: STATUS's reserved bits stay 0, STATUS and FCMD are 0 until a fault, and a fault's cause is one of
the six. -/
def Obligations.StepKeepsFaultInvariant : Prop :=
  ∀ s t : State, s.FaultInv → step s = .next t → t.FaultInv

/-! ### Encoding -/

/-- 30_encoding.md R61 to R63, R68: decoding a command's word gives the command back, with every operand at every value of
its field, those outside its domain too. -/
def Obligations.DecodeOfEncodeIsTheCommand : Prop :=
  ∀ i : Instr, decode (encode i) = .ok i

/-- 30_encoding.md R67: a word that spells a command is that command's one encoding. -/
def Obligations.DecodedWordIsItsEncoding : Prop :=
  ∀ (w : CmdWord) (i : Instr), decode w = .ok i → encode i = w

/-- 30_encoding.md R63: a word selects a command exactly when (w AND mask) = match, with the operand of R61 and R62. -/
def Obligations.WordSelectsItsRow : Prop :=
  ∀ w : CmdWord,
    (decode w = .ok (.selmode (w.extractLsb' 0 2)) ↔ w &&& 0xFFFC = 0x1000) ∧
    (decode w = .ok (.toggle (w.extractLsb' 0 3)) ↔ w &&& 0xFFF8 = 0x2000) ∧
    (decode w = .ok (.loadpat (w.extractLsb' 0 7)) ↔ w &&& 0xFF80 = 0x3000) ∧
    (decode w = .ok .step ↔ w &&& 0xFFFF = 0x4000) ∧
    (decode w = .ok (.nav (if w.getLsbD 0 then .minus else .plus)) ↔ w &&& 0xFFFE = 0x5000) ∧
    (decode w = .ok .reset ↔ w &&& 0xFFFF = 0x6000) ∧
    (decode w = .ok (.seldig (w.extractLsb' 0 4)) ↔ w &&& 0xFFF0 = 0x7000) ∧
    (decode w = .ok (.setrun (w.getLsbD 0)) ↔ w &&& 0xFFFE = 0x8000) ∧
    (decode w = .ok (.setivl (w.extractLsb' 0 10)) ↔ w &&& 0xFC00 = 0x9000)

/-- A few of the words of 95_test_vectors.md V-DEC and 30_encoding.md R70, for every family. -/
def Obligations.WordsOfTheSpecDecode : Prop :=
  decode 0x1002 = .ok (.selmode 2) ∧ decode 0x6000 = .ok .reset ∧ decode 0x2006 = .ok (.toggle 6) ∧
  decode 0x3050 = .ok (.loadpat 0x50) ∧ decode 0x4000 = .ok .step ∧ decode 0x5001 = .ok (.nav .minus) ∧
  decode 0x7009 = .ok (.seldig 9) ∧ decode 0x8001 = .ok (.setrun true) ∧ decode 0x93E8 = .ok (.setivl 1000) ∧
  decode 0x0000 = .error .reservedOpcode ∧ decode 0xFFFF = .error .reservedOpcode ∧
  decode 0x9400 = .error .reservedBits

/-! ### Faults -/

/-- 30_encoding.md R64: a word with opcode 0x0 or 0xA to 0xF faults with RESERVED_OPCODE, and so does 0x0000. -/
def Obligations.ReservedOpcodeFaults : Prop :=
  (∀ (s : State) (w : CmdWord) (rest : List Event), s.faulted = false → s.pending = .command w :: rest →
    (w.toNat / 4096 = 0 ∨ 10 ≤ w.toNat / 4096) →
    step s = .next { s with pending := rest, status := 0x8001, fcmd := w }) ∧
  (∀ w : CmdWord, decode w = .error .reservedOpcode ↔ w.toNat / 4096 = 0 ∨ 10 ≤ w.toNat / 4096) ∧
  decode 0x0000 = .error .reservedOpcode

/-- 30_encoding.md R65: a word of an assigned opcode with a reserved bit set faults with RESERVED_BITS. The list is R63's
opcode, mask and match. -/
def Obligations.ReservedBitsFault : Prop :=
  ∀ row ∈ ([(1, 0xFFFC, 0x1000), (2, 0xFFF8, 0x2000), (3, 0xFF80, 0x3000), (4, 0xFFFF, 0x4000), (5, 0xFFFE, 0x5000),
      (6, 0xFFFF, 0x6000), (7, 0xFFF0, 0x7000), (8, 0xFFFE, 0x8000), (9, 0xFC00, 0x9000)] :
      List (Nat × CmdWord × CmdWord)),
    ∀ (s : State) (w : CmdWord) (rest : List Event), s.faulted = false → s.pending = .command w :: rest →
      w.toNat / 4096 = row.1 → w &&& row.2.1 ≠ row.2.2 →
      step s = .next { s with pending := rest, status := 0x8002, fcmd := w }

/-- 30_encoding.md R66: each operand value outside its domain faults with its cause, in every mode; FCMD holds the whole
word. -/
def Obligations.ReservedOperandsFaultInEveryMode : Prop :=
  ∀ s : State, s.faulted = false →
    exec (.selmode 3) s = .next { s with status := 0x8003, fcmd := 0x1003 } ∧
    exec (.toggle 7) s = .next { s with status := 0x8004, fcmd := 0x2007 } ∧
    (∀ d : BitVec 4, 10 ≤ d.toNat →
      exec (.seldig d) s = .next { s with status := 0x8005, fcmd := 0x7000 ||| d.setWidth 16 }) ∧
    (∀ n : Interval, n.toNat < 50 ∨ 1000 < n.toNat →
      exec (.setivl n) s = .next { s with status := 0x8006, fcmd := 0x9000 ||| n.setWidth 16 })

/-- 60_exceptions.md R192: a command that takes the block into the faulted state writes STATUS and FCMD and nothing else,
STATUS with FAULTED and a cause, FCMD with the command word. -/
def Obligations.FaultEntryWritesOnlyStatusAndFcmd : Prop :=
  ∀ (s t : State) (w : CmdWord) (rest : List Event), s.faulted = false → s.pending = .command w :: rest →
    step s = .next t → t.faulted = true →
    ∃ c : Cause, t = { s with pending := rest, status := 0x8000 ||| c.code.setWidth 16, fcmd := w }

/-- From 60_exceptions.md R193: while FAULTED = 1 every command is ignored, the scheduler has no step, reads answer as
before, and only power-on reset ends it. The first clause, an idle step that answers the same state, is the model's choice
(log 3). -/
def Obligations.FaultedBlockIsFrozen : Prop :=
  ∀ s : State, s.faulted = true →
    (s.pending = [] → step s = .next s) ∧
    (∀ (w : CmdWord) (rest : List Event), s.pending = .command w :: rest → step s = .next { s with pending := rest }) ∧
    (∀ rest : List Event, s.pending = .tick :: rest → step s = .next { s with pending := rest }) ∧
    (∀ (a : ReadAddr) (word : ReadWord) (rest : List Event), s.pending = .read a :: rest → readMap a s = .ok word →
      step s = .next { s with pending := rest, out := s.out ++ [.readData a word] }) ∧
    (∀ (e : Event) (rest : List Event) (t : State), s.pending = e :: rest → e ≠ .powerOn → step s = .next t →
      t.faulted = true ∧ s.SameRegisters t) ∧
    (∀ (rest : List Event) (t : State), s.pending = .powerOn :: rest → step s = .next t → t.faulted = false)

/-- 60_exceptions.md R194: the six checks of a command word, in their order; the first that applies decides. -/
def Obligations.CommandChecksInOrder : Prop :=
  ∀ (s : State) (w : CmdWord) (rest : List Event), s.pending = .command w :: rest →
    (s.faulted = true → step s = .next { s with pending := rest }) ∧
    (s.faulted = false → w.toNat / 4096 = 0 ∨ 10 ≤ w.toNat / 4096 →
      step s = .next { s with pending := rest, status := 0x8001, fcmd := w }) ∧
    (s.faulted = false → ¬ (w.toNat / 4096 = 0 ∨ 10 ≤ w.toNat / 4096) → (∀ i, decode w ≠ .ok i) →
      step s = .next { s with pending := rest, status := 0x8002, fcmd := w }) ∧
    (∀ i : Instr, s.faulted = false → decode w = .ok i → i.wellFormed = false →
      ∃ c ∈ [Cause.reservedMode, .indexOutOfRange, .digitOutOfRange, .intervalOutOfRange],
        step s = .next { s with pending := rest, status := 0x8000 ||| c.code.setWidth 16, fcmd := w }) ∧
    (∀ i : Instr, s.faulted = false → decode w = .ok i → i.wellFormed = true → legal i s.mode = false →
      step s = .next { s with pending := rest }) ∧
    (∀ i : Instr, s.faulted = false → decode w = .ok i → i.wellFormed = true → legal i s.mode = true →
      step s = exec i { s with pending := rest })

/-- 41_mode_control.md R105, with the modes of R104: an illegal-for-mode command changes nothing at all. -/
def Obligations.IllegalForModeIsIgnored : Prop :=
  ∀ s : State,
    (∀ i : BitVec 3, i.toNat ≤ 6 → s.mode ≠ .manual → exec (.toggle i) s = .next s) ∧
    (∀ p : Pattern, s.mode = .counter → exec (.loadpat p) s = .next s) ∧
    (s.mode = .manual → exec .step s = .next s) ∧
    (∀ dir : Direction, s.mode ≠ .counter → exec (.nav dir) s = .next s) ∧
    (∀ d : BitVec 4, d.toNat ≤ 9 → s.mode ≠ .counter → exec (.seldig d) s = .next s) ∧
    (∀ r : Bool, s.mode = .manual → exec (.setrun r) s = .next s)

/-! ### What each command does -/

/-- SELMODE (41_mode_control.md R101, R102; what is recorded and cued, 44_history.md R172). -/
def Obligations.SelmodeSelectsTheMode : Prop :=
  ∀ (s : State) (m : Mode), s.faulted = false →
    ∃ t : State, exec (.selmode m.code) s = .next t ∧
      t.mode = m ∧ t.running = false ∧ t.pattern = (if m = .counter then 0x7E else 0x00) ∧ t.value = 0 ∧
      t.interval = s.interval ∧ t.status = s.status ∧ t.fcmd = s.fcmd ∧ t.elapsed = s.elapsed ∧ s.SameModel t ∧
      (if s.policy = .onRegisterChange ∧ (t.pattern ≠ s.pattern ∨ t.value ≠ s.value)
        then t.hist = (0 :: s.hist).take 40 ∧ t.out = s.out ++ [.cue .modeChange 0, .cue .mutation 0]
        else t.hist = s.hist ∧ t.out = s.out ++ [.cue .modeChange 0])

/-- RESET (41_mode_control.md R101, R103; what is recorded and cued, 44_history.md R172). -/
def Obligations.ResetRestoresTheModesDefault : Prop :=
  ∀ s : State, s.faulted = false →
    ∃ t : State, exec .reset s = .next t ∧
      t.mode = s.mode ∧ t.running = false ∧ t.pattern = (if s.mode = .counter then 0x7E else 0x00) ∧ t.value = 0 ∧
      t.interval = s.interval ∧ t.status = s.status ∧ t.fcmd = s.fcmd ∧ t.elapsed = s.elapsed ∧ s.SameModel t ∧
      (if s.policy = .perMutation ∨ t.pattern ≠ s.pattern ∨ t.value ≠ s.value
        then s.Recorded t 0 else s.Unrecorded t)

/-- TOGGLE in Manual mode (42_register_ops.md R121); it records under both policies. -/
def Obligations.ToggleFlipsOneSegment : Prop :=
  ∀ (s : State) (i : BitVec 3), s.faulted = false → s.mode = .manual → i.toNat ≤ 6 →
    ∃ t : State, exec (.toggle i) s = .next t ∧
      t.pattern = s.pattern ^^^ (1#7 <<< (6 - i.toNat)) ∧ t.value.toNat = toValue t.pattern ∧
      s.Recorded t (sample t.value.toNat s.mode) ∧ s.SameControl t

/-- LOADPAT in Animation and Manual mode (42_register_ops.md R122; what is recorded, 44_history.md R172). -/
def Obligations.LoadpatLoadsThePattern : Prop :=
  ∀ (s : State) (p : Pattern), s.faulted = false → s.mode ≠ .counter →
    ∃ t : State, exec (.loadpat p) s = .next t ∧
      t.pattern = p ∧ t.value.toNat = toValue p ∧ s.SameControl t ∧
      (if s.policy = .perMutation ∨ t.pattern ≠ s.pattern ∨ t.value ≠ s.value
        then s.Recorded t (sample t.value.toNat s.mode) else s.Unrecorded t)

/-- STEP in Animation mode (42_register_ops.md R124, R125); it records under both policies. -/
def Obligations.StepAdvancesAnimation : Prop :=
  ∀ s : State, s.faulted = false → s.mode = .animation →
    ∃ t : State, exec .step s = .next t ∧
      t.value.toNat = (s.value.toNat + 1) % 128 ∧ t.pattern = toPattern ((s.value.toNat + 1) % 128) ∧
      s.Recorded t (sample t.value.toNat s.mode) ∧ s.SameControl t

/-- STEP in Counter mode (42_register_ops.md R124, R125); it records under both policies. -/
def Obligations.StepAdvancesCounter : Prop :=
  ∀ s : State, s.faulted = false → s.mode = .counter →
    ∃ t : State, exec .step s = .next t ∧
      t.value.toNat = (s.value.toNat + 1) % 10 ∧ lookup ((s.value.toNat + 1) % 10) = some t.pattern ∧
      s.Recorded t (sample t.value.toNat s.mode) ∧ s.SameControl t

/-- NAV in Counter mode (42_register_ops.md R126); the sum is taken in the integers, and it records under both
policies. -/
def Obligations.NavMovesTheDigit : Prop :=
  ∀ (s : State) (dir : Direction), s.faulted = false → s.mode = .counter →
    ∃ t : State, exec (.nav dir) s = .next t ∧
      (t.value.toNat : Int) = ((s.value.toNat : Int) + (if dir = .plus then 1 else -1) + 10) % 10 ∧
      lookup t.value.toNat = some t.pattern ∧
      s.Recorded t (sample t.value.toNat s.mode) ∧ s.SameControl t

/-- SELDIG in Counter mode (42_register_ops.md R127; what is recorded, 44_history.md R172). -/
def Obligations.SeldigSelectsTheDigit : Prop :=
  ∀ (s : State) (d : BitVec 4), s.faulted = false → s.mode = .counter → d.toNat ≤ 9 →
    ∃ t : State, exec (.seldig d) s = .next t ∧
      t.value.toNat = d.toNat ∧ lookup d.toNat = some t.pattern ∧ s.SameControl t ∧
      (if s.policy = .perMutation ∨ t.pattern ≠ s.pattern ∨ t.value ≠ s.value
        then s.Recorded t (sample t.value.toNat s.mode) else s.Unrecorded t)

/-- SETRUN in Animation and Counter mode (43_scheduler.md R152); ELAPSED restarts only in the timed refinement, and only
when RUNNING goes from 0 to 1 (R155). -/
def Obligations.SetrunWritesRunning : Prop :=
  ∀ (s : State) (r : Bool), s.faulted = false → s.mode ≠ .manual →
    exec (.setrun r) s = .next { s with
      running := r
      elapsed := if s.timing = .timed ∧ r = true ∧ s.running = false then 0 else s.elapsed }

/-- SETIVL in every mode (43_scheduler.md R153): INTERVAL and nothing else. -/
def Obligations.SetivlWritesInterval : Prop :=
  ∀ (s : State) (n : Interval), s.faulted = false → 50 ≤ n.toNat → n.toNat ≤ 1000 →
    exec (.setivl n) s = .next { s with interval := n }

/-- 42_register_ops.md R121, corner case: two TOGGLEs of one segment restore PATTERN and VALUE, and leave two samples. -/
def Obligations.ToggleTwiceRestores : Prop :=
  ∀ (s : State) (i : BitVec 3), s.faulted = false → s.mode = .manual → s.ModeInv → i.toNat ≤ 6 →
    ∃ t u : State, exec (.toggle i) s = .next t ∧ exec (.toggle i) t = .next u ∧
      u.pattern = s.pattern ∧ u.value = s.value ∧
      u.hist = (sample u.value.toNat u.mode :: sample t.value.toNat t.mode :: s.hist).take 40

/-- 42_register_ops.md R126, corner case: NAV +1 gives the same state as STEP in Counter mode. -/
def Obligations.NavPlusIsStepInCounter : Prop :=
  ∀ s : State, s.mode = .counter → exec (.nav .plus) s = exec .step s

/-! ### The step and the scheduler -/

/-- A step runs the decoded command (60_exceptions.md R194): it is exec on the state with the word taken off what is
pending. -/
def Obligations.StepRunsTheDecodedCommand : Prop :=
  ∀ (s : State) (w : CmdWord) (i : Instr) (rest : List Event), s.pending = .command w :: rest → decode w = .ok i →
    step s = exec i { s with pending := rest }

/-- 43_scheduler.md R150, R151, in the untimed model: a TICK has exactly STEP's effect when it is enabled, and is discarded
otherwise. -/
def Obligations.TickStepsOnlyWhenEnabled : Prop :=
  ∀ s : State,
    (s.tickEnabled = true ↔ s.running = true ∧ (s.mode = .animation ∨ s.mode = .counter) ∧ s.faulted = false) ∧
    (s.timing = .untimed → s.tickEnabled = true → ∀ rest : List Event, s.pending = .tick :: rest →
      step s = exec .step { s with pending := rest }) ∧
    (s.tickEnabled = false → ∀ rest : List Event, s.pending = .tick :: rest →
      step s = .next { s with pending := rest })

/-- From 43_scheduler.md R157: SETRUN 0, SELMODE and RESET clear RUNNING; from then on, over any run in which no SETRUN 1 is
pending, RUNNING stays 0 and no TICK is enabled; only a SETRUN 1 that takes effect in Animation or Counter mode sets RUNNING
again; and a tick that comes while RUNNING = 0 changes nothing. The last clause, an idle step that answers the same state, is
the model's choice (log 3). -/
def Obligations.StopBeforeAnyFurtherStep : Prop :=
  (∀ (s t : State) (i : Instr), s.faulted = false → i.wellFormed = true →
    ((i = .setrun false ∧ s.mode ≠ .manual) ∨ i = .reset ∨ ∃ m, i = .selmode m) →
    exec i s = .next t → t.running = false) ∧
  (∀ (k : Nat) (s t : State), s.running = false → Event.command 0x8001 ∉ s.pending →
    Host.Core.run Sys2Proof.core k s = .next t → t.running = false ∧ t.tickEnabled = false) ∧
  (∀ s t : State, s.running = false → step s = .next t → t.running = true →
    s.faulted = false ∧ s.mode ≠ .manual ∧ ∃ rest : List Event, s.pending = .command 0x8001 :: rest) ∧
  (∀ (s : State) (rest : List Event), s.running = false → s.pending = .tick :: rest →
    step s = .next { s with pending := rest }) ∧
  (∀ s : State, s.running = false → s.pending = [] → step s = .next s)

/-- From 43_scheduler.md R158: in Manual mode a tick changes nothing, and only TOGGLE, LOADPAT, RESET and SELMODE change the
register. R25's invariant is the premise on RUNNING; power-on reset is no step of the order of effect (R221). The first clause is about
the idle step, which is the model's choice (log 3). -/
def Obligations.ManualHasNoTimedEvolution : Prop :=
  ∀ (s t : State), s.mode = .manual → s.ControlInv → step s = .next t →
    (s.pending = [] → t = s) ∧
    (∀ (e : Event) (rest : List Event), s.pending = e :: rest → e ≠ .powerOn →
      (t.pattern ≠ s.pattern ∨ t.value ≠ s.value) →
      ∃ (w : CmdWord) (i : Instr), e = .command w ∧ decode w = .ok i ∧
        ((∃ x, i = .toggle x) ∨ (∃ p, i = .loadpat p) ∨ i = .reset ∨ ∃ m, i = .selmode m))

/-- 42_register_ops.md R125, 43_scheduler.md R150: n TICKs in Animation mode add n modulo 128, so 128 return to the
start. That a step with nothing pending is a TICK is the model's choice (log 3). -/
def Obligations.AnimationTicksCycleMod128 : Prop :=
  ∀ (n : Nat) (s : State), s.timing = .untimed → s.pending = [] → s.tickEnabled = true → s.mode = .animation →
    s.ModeInv →
    ∃ t : State, Host.Core.run Sys2Proof.core n s = .next t ∧
      t.value.toNat = (s.value.toNat + n) % 128 ∧ t.pattern = toPattern t.value.toNat ∧
      t.mode = .animation ∧ t.running = true ∧ t.interval = s.interval

/-- 42_register_ops.md R125, 43_scheduler.md R150: n TICKs in Counter mode add n modulo 10, so 10 return to the start.
That a step with nothing pending is a TICK is the model's choice (log 3). -/
def Obligations.CounterTicksCycleMod10 : Prop :=
  ∀ (n : Nat) (s : State), s.timing = .untimed → s.pending = [] → s.tickEnabled = true → s.mode = .counter →
    s.ModeInv →
    ∃ t : State, Host.Core.run Sys2Proof.core n s = .next t ∧
      t.value.toNat = (s.value.toNat + n) % 10 ∧ lookup t.value.toNat = some t.pattern ∧
      t.mode = .counter ∧ t.running = true ∧ t.interval = s.interval

/-- 60_exceptions.md R204: a block with RUNNING = 0 and nothing pending keeps all its state. That the model's step then
answers the same state is its own choice (log 3). -/
def Obligations.IdleBlockKeepsItsState : Prop :=
  ∀ s : State, s.pending = [] → s.running = false → step s = .next s

/-- 43_scheduler.md R155, the timed refinement: TIMEBASE adds to ELAPSED while running and not faulted, a TICK needs
ELAPSED ≥ INTERVAL, and it sets ELAPSED to 0. Whole milliseconds are the model's choice (log 5). -/
def Obligations.TimedTickNeedsTheInterval : Prop :=
  ∀ (s : State) (rest : List Event), s.timing = .timed →
    (∀ ms : Nat, s.pending = .timebase ms :: rest → step s = .next { s with
      pending := rest
      elapsed := if s.running = true ∧ s.faulted = false then s.elapsed + ms else s.elapsed }) ∧
    (s.pending = .tick :: rest → s.elapsed < s.interval.toNat → step s = .next { s with pending := rest }) ∧
    (s.pending = .tick :: rest → s.tickEnabled = true → s.interval.toNat ≤ s.elapsed →
      ∃ u : State, exec .step { s with pending := rest } = .next u ∧ step s = .next { u with elapsed := 0 })

/-! ### Rules of the whole machine -/

/-- 41_mode_control.md R100: every mode can be reached from every mode by SELMODE, and nothing else but power-on reset
changes MODE. -/
def Obligations.OnlySelmodeChangesMode : Prop :=
  (∀ (s : State) (m : Mode), s.faulted = false → ∃ t, exec (.selmode m.code) s = .next t ∧ t.mode = m) ∧
  (∀ s t : State, step s = .next t → t.mode ≠ s.mode →
    (∃ (w : CmdWord) (m : BitVec 2) (rest : List Event), s.pending = .command w :: rest ∧ decode w = .ok (.selmode m)) ∨
    (∃ rest : List Event, s.pending = .powerOn :: rest)) ∧
  State.reset.mode = .animation

/-- 10_state.md R20, the column "written by": a step that changes a register is, power-on reset apart, one of the commands
that column lists (or fault entry, or a TICK for the register pair and the history). That a step with nothing pending is the
scheduler's turn is the model's choice (log 3). -/
def Obligations.RegistersHaveOnlyTheirWriters : Prop :=
  ∀ s t : State, step s = .next t → (∀ rest : List Event, s.pending ≠ .powerOn :: rest) →
    let runs (ok : Instr → Prop) : Prop :=
      ∃ (w : CmdWord) (i : Instr) (rest : List Event), s.pending = .command w :: rest ∧ decode w = .ok i ∧ ok i
    let tickTurn : Prop := s.pending = [] ∨ ∃ rest : List Event, s.pending = .tick :: rest
    (t.running ≠ s.running → runs fun i => (∃ r, i = .setrun r) ∨ (∃ m, i = .selmode m) ∨ i = .reset) ∧
    (t.interval ≠ s.interval → runs fun i => ∃ n, i = .setivl n) ∧
    (t.pattern ≠ s.pattern ∨ t.value ≠ s.value ∨ t.hist ≠ s.hist → tickTurn ∨ runs fun i =>
      (∃ m, i = .selmode m) ∨ i = .reset ∨ (∃ x, i = .toggle x) ∨ (∃ p, i = .loadpat p) ∨ i = .step ∨
      (∃ dir, i = .nav dir) ∨ ∃ d, i = .seldig d) ∧
    (t.status ≠ s.status ∨ t.fcmd ≠ s.fcmd → s.faulted = false ∧ t.faulted = true ∧
      ∃ (w : CmdWord) (rest : List Event), s.pending = .command w :: rest ∧ t.fcmd = w)

/-- 44_history.md R173: a step adds at most one sample at the front, dropping only beyond 40; power-on reset alone empties
the history. -/
def Obligations.OnlyPowerOnEmptiesHistory : Prop :=
  ∀ s t : State, step s = .next t →
    (∃ rest : List Event, s.pending = .powerOn :: rest ∧ t.hist = []) ∨
    ((∀ rest : List Event, s.pending ≠ .powerOn :: rest) ∧
      (t.hist = s.hist ∨ ∃ x : Sample, t.hist = (x :: s.hist).take 40))

/-- Every event but a host read answers a next state, and no step ends in a fault of the model. The spec gives every word an
effect and refuses host reads only (30_encoding.md section 3, 20_memory.md section 2). The rest is the model's: an idle step
answers a next state (log 3), fault entry is a next state and the type Fault is empty, so that the second clause holds
because nothing can be a fault outcome (log 12), and a forbidden read is a refusal (log 13). -/
def Obligations.OnlyReadsCanBeRefused : Prop :=
  (∀ s : State, (∀ (a : ReadAddr) (rest : List Event), s.pending ≠ .read a :: rest) → ∃ t, step s = .next t) ∧
  (∀ (s : State) (f : Fault), step s ≠ .fault f)

/-! ### History -/

/-- 44_history.md R170: the exact sample, in tenths, of every value a mode can hold; so of every state under the mode
invariant. -/
def Obligations.SampleIsExactTenths : Prop :=
  (∀ v : Nat, v ≤ 9 → (sample v .counter).toNat = 127 * v) ∧
  (∀ v : Nat, v ≤ 127 → (sample v .animation).toNat = 10 * v ∧ (sample v .manual).toNat = 10 * v) ∧
  (∀ s : State, s.ModeInv →
    (sample s.value.toNat s.mode).toNat = (if s.mode = .counter then 127 else 10) * s.value.toNat)

/-- 44_history.md R175: the capacity laws, for any sequence of records from an empty buffer. -/
def Obligations.HistoryKeepsTheNewestForty : Prop :=
  (∀ (policy : RecordPolicy) (timing : Timing), (State.powerOn policy timing).hlen ≤ 40) ∧
  (∀ s t : State, s.hlen ≤ 40 → step s = .next t → t.hlen ≤ 40) ∧
  (∀ (l : List (Nat × Mode)) (s : State), s.hist = [] →
    let t := l.foldl (fun s x => record x.1 x.2 s) s
    t.hlen = min l.length 40 ∧
    (∀ k < t.hlen, t.hist[k]? = (l.reverse.map fun x => sample x.1 x.2)[k]?) ∧
    (l.length = 41 → t.hist = ((l.drop 1).map fun x => sample x.1 x.2).reverse))

/-- From 44_history.md R172: the two values of RECORD_POLICY agree on every TOGGLE, STEP, NAV and TICK. That a step with
nothing pending is the scheduler's turn is the model's choice (log 3). -/
def Obligations.PoliciesAgreeOnSteps : Prop :=
  ∀ (s t u : State),
    (∀ i : Instr, ((∃ x, i = .toggle x) ∨ i = .step ∨ ∃ dir, i = .nav dir) →
      exec i { s with policy := .perMutation } = .next t → exec i { s with policy := .onRegisterChange } = .next u →
      t = { u with policy := .perMutation }) ∧
    (s.pending = [] → step { s with policy := .perMutation } = .next t →
      step { s with policy := .onRegisterChange } = .next u → t = { u with policy := .perMutation })

/-! ### Reads, conversions and the host's side -/

/-- 20_memory.md R41, R42: what each address answers. -/
def Obligations.ReadMapAnswers : Prop :=
  ∀ s : State,
    readMap 0x00 s = .ok (match s.mode with | .animation => 0 | .manual => 1 | .counter => 2) ∧
    readMap 0x01 s = .ok (s.pattern.setWidth 16) ∧ readMap 0x02 s = .ok (s.value.setWidth 16) ∧
    readMap 0x03 s = .ok (if s.running then 1 else 0) ∧ readMap 0x04 s = .ok (s.interval.setWidth 16) ∧
    readMap 0x05 s = .ok (BitVec.ofNat 16 s.hlen) ∧ readMap 0x06 s = .ok (s.status &&& 0x800F) ∧
    readMap 0x07 s = .ok s.fcmd ∧ readMap 0x08 s = .ok (digitOf s.pattern) ∧ readMap 0x09 s = .ok (valBcd s.value) ∧
    (∀ (k : Nat) (h : Sample), k < 40 → s.hist[k]? = some h →
      readMap (BitVec.ofNat 8 (0x10 + k)) s = .ok (h.setWidth 16)) ∧
    (∀ d : Fin 10, readMap (BitVec.ofNat 8 (0x40 + d.val)) s = .ok ((lut d).setWidth 16))

/-- 20_memory.md R43: a read answers and changes no register, faulted or not, so the next read of any address answers the
same. -/
def Obligations.ReadsHaveNoSideEffect : Prop :=
  ∀ (s : State) (a : ReadAddr) (word : ReadWord) (rest : List Event), s.pending = .read a :: rest →
    readMap a s = .ok word →
    ∃ t : State, step s = .next t ∧ t = { s with pending := rest, out := s.out ++ [.readData a word] } ∧
      ∀ b : ReadAddr, readMap b t = readMap b s

/-- 20_memory.md R44: exactly the addresses the host must not read are refused. -/
def Obligations.ForbiddenReadsAreRefused : Prop :=
  ∀ (s : State) (a : ReadAddr) (rest : List Event), s.pending = .read a :: rest →
    ((∃ r : Refusal, step s = .refused r) ↔
      ((0x0A ≤ a.toNat ∧ a.toNat ≤ 0x0F) ∨ (0x38 ≤ a.toNat ∧ a.toNat ≤ 0x3F) ∨ 0x4A ≤ a.toNat ∨
        (0x10 ≤ a.toNat ∧ a.toNat ≤ 0x37 ∧ s.hlen ≤ a.toNat - 0x10)))

/-- 40_digit_table.md R82: reverseLookup inverts the table, ten of the 128 patterns have a digit, and the block shows it at
DIGITOF. -/
def Obligations.ReverseLookupInvertsTheTable : Prop :=
  (∀ d : Fin 10, reverseLookup (lut d) = some d) ∧
  (∀ (p : Pattern) (d : Fin 10), reverseLookup p = some d ↔ lut d = p) ∧
  ((List.finRange 128).filter fun n => (reverseLookup (BitVec.ofFin n)).isSome).length = 10 ∧
  (∀ s : State, readMap 0x08 s = .ok (match reverseLookup s.pattern with
    | some d => BitVec.ofNat 16 d.val
    | none => 0x8000))

/-- 40_digit_table.md R85: the two binary readings invert each other, without exception; so, under the mode invariant, each
half of the register is the other's reading outside Counter mode. -/
def Obligations.BinaryReadingsRoundTrip : Prop :=
  (∀ p : Pattern, toPattern (toValue p) = p) ∧ (∀ v : Nat, v ≤ 127 → toValue (toPattern v) = v) ∧
  (∀ s : State, s.ModeInv → s.mode ≠ .counter →
    toPattern s.value.toNat = s.pattern ∧ toValue s.pattern = s.value.toNat)

/-- 40_digit_table.md R86: drop, truncate, pad; always seven characters over 0 and 1; and the LOADPAT operand of a text is
the pattern with just that string. -/
def Obligations.SanitizeDropsTruncatesPads : Prop :=
  ∀ raw : Text,
    sanitize raw = ((raw.filter fun c => c == '0' || c == '1') ++ List.replicate 7 '0').take 7 ∧
    (sanitize raw).length = 7 ∧ (∀ c ∈ sanitize raw, c = '0' ∨ c = '1') ∧
    patternString (textPattern raw) = sanitize raw ∧ sanitize (sanitize raw) = sanitize raw

/-- 30_encoding.md R70: NEXT, PREV, START, STOP and LOADTXT of any text without a quotation mark assemble to the words
their expansions encode. -/
def Obligations.PseudoInstructionsExpand : Prop :=
  assembleLine "NEXT".toList = .word 0x5000 ∧ assembleLine "PREV".toList = .word 0x5001 ∧
  assembleLine "START".toList = .word 0x8001 ∧ assembleLine "STOP".toList = .word 0x8000 ∧
  (∀ raw : Text, '"' ∉ raw →
    assembleLine ("LOADTXT \"".toList ++ raw ++ ['"']) = .word (encode (.loadpat (textPattern raw))))

/-- 40_digit_table.md R87: VALBCD packs the decimal digits of VALUE; in Counter mode, under the mode invariant, it is
VALUE. -/
def Obligations.ValbcdPacksTheDecimalDigits : Prop :=
  (∀ s : State, ∃ word : ReadWord, readMap 0x09 s = .ok word ∧
    word.toNat = 256 * (s.value.toNat / 100) + 16 * (s.value.toNat / 10 % 10) + s.value.toNat % 10) ∧
  (∀ s : State, s.ModeInv → s.mode = .counter → readMap 0x09 s = .ok (s.value.setWidth 16))

/-- 40_digit_table.md R88: DIGITOF is the digit of PATTERN, or 0x8000; in Counter mode, under the mode invariant, it is
VALUE. -/
def Obligations.DigitofShowsReverseLookup : Prop :=
  (∀ (s : State) (d : Fin 10), reverseLookup s.pattern = some d → readMap 0x08 s = .ok (BitVec.ofNat 16 d.val)) ∧
  (∀ s : State, reverseLookup s.pattern = none → readMap 0x08 s = .ok 0x8000) ∧
  (∀ s : State, s.ModeInv → s.mode = .counter → readMap 0x08 s = .ok (s.value.setWidth 16))

/-- 20_memory.md R54: the export record of the state, with the host's timestamp; no register changes. -/
def Obligations.ExportTakesOneConsistentState : Prop :=
  ∀ (s : State) (ts : Text) (rest : List Event), s.pending = .exportState ts :: rest →
    ∃ r : Snapshot, step s = .next { s with pending := rest, out := s.out ++ [.snapshot r] } ∧
      r.timestamp = ts ∧ r.mode = s.mode ∧ r.decimal = s.value.toNat ∧ r.binary.length = 7 ∧
      ∀ i < 7, r.binary[i]? = some (if s.pattern.getLsbD (6 - i) then '1' else '0')
end

