-- ==== Sys2Proof/Laws/DigitTable.lean ====
section
/-! SUPPORT. Small laws of the conversion functions. -/

namespace Sys2Proof.Machine

/-- `toValue` reads the pattern as an unsigned 7-bit integer (40_digit_table.md R83). -/
theorem toValue_eq_toNat : ∀ p : Pattern, toValue p = p.toNat := by decide

/-- `toValue` fits VALUE. -/
theorem toValue_lt (p : Pattern) : toValue p < 128 := toValue_eq_toNat p ▸ p.isLt

/-- Bit j of `toPattern v` is (v div 2^j) mod 2 (40_digit_table.md R84). -/
theorem toPattern_bit (v j : Nat) (h : j < 7) : (toPattern v).getLsbD j = (v / 2 ^ j % 2 == 1) := by
  rw [toPattern, BitVec.getLsbD_ofNat, Nat.testBit_eq_decide_div_mod_eq]
  simp [h, beq_eq_decide]

/-- The entry of a digit is what `lookup` answers. -/
theorem lookup_eq_lut (d : Fin 10) : lookup d.val = some (lut d) := by
  simp [lookup, lut, lutTable]

/-- `digitMod10` is the remainder. -/
@[simp] theorem digitMod10_val (n : Nat) : (digitMod10 n).val = n % 10 := rfl

end Sys2Proof.Machine
end

