-- ==== Sys2Proof/Laws/State.lean ====
section
/-! SUPPORT. What each setter of Machine/Ops.lean leaves in each field, and what it leaves of the flags: one lemma per field
per update, so that no proof unfolds a record update. -/

namespace Sys2Proof.Machine

variable (s : State)

/-! ### setMode -/

@[simp] theorem setMode_mode (m : Mode) : (s.setMode m).mode = m := rfl
@[simp] theorem setMode_pattern (m : Mode) : (s.setMode m).pattern = s.pattern := rfl
@[simp] theorem setMode_value (m : Mode) : (s.setMode m).value = s.value := rfl
@[simp] theorem setMode_running (m : Mode) : (s.setMode m).running = s.running := rfl
@[simp] theorem setMode_interval (m : Mode) : (s.setMode m).interval = s.interval := rfl
@[simp] theorem setMode_hist (m : Mode) : (s.setMode m).hist = s.hist := rfl
@[simp] theorem setMode_status (m : Mode) : (s.setMode m).status = s.status := rfl
@[simp] theorem setMode_fcmd (m : Mode) : (s.setMode m).fcmd = s.fcmd := rfl
@[simp] theorem setMode_elapsed (m : Mode) : (s.setMode m).elapsed = s.elapsed := rfl
@[simp] theorem setMode_policy (m : Mode) : (s.setMode m).policy = s.policy := rfl
@[simp] theorem setMode_timing (m : Mode) : (s.setMode m).timing = s.timing := rfl
@[simp] theorem setMode_pending (m : Mode) : (s.setMode m).pending = s.pending := rfl
@[simp] theorem setMode_out (m : Mode) : (s.setMode m).out = s.out := rfl
@[simp] theorem setMode_faulted (m : Mode) : (s.setMode m).faulted = s.faulted := rfl

/-! ### setRegister -/

@[simp] theorem setRegister_mode (p : Pattern) (v : Nat) : (s.setRegister p v).mode = s.mode := rfl
@[simp] theorem setRegister_pattern (p : Pattern) (v : Nat) : (s.setRegister p v).pattern = p := rfl
@[simp] theorem setRegister_value (p : Pattern) (v : Nat) : (s.setRegister p v).value = BitVec.ofNat 7 v := rfl
@[simp] theorem setRegister_running (p : Pattern) (v : Nat) : (s.setRegister p v).running = s.running := rfl
@[simp] theorem setRegister_interval (p : Pattern) (v : Nat) : (s.setRegister p v).interval = s.interval := rfl
@[simp] theorem setRegister_hist (p : Pattern) (v : Nat) : (s.setRegister p v).hist = s.hist := rfl
@[simp] theorem setRegister_status (p : Pattern) (v : Nat) : (s.setRegister p v).status = s.status := rfl
@[simp] theorem setRegister_fcmd (p : Pattern) (v : Nat) : (s.setRegister p v).fcmd = s.fcmd := rfl
@[simp] theorem setRegister_elapsed (p : Pattern) (v : Nat) : (s.setRegister p v).elapsed = s.elapsed := rfl
@[simp] theorem setRegister_policy (p : Pattern) (v : Nat) : (s.setRegister p v).policy = s.policy := rfl
@[simp] theorem setRegister_timing (p : Pattern) (v : Nat) : (s.setRegister p v).timing = s.timing := rfl
@[simp] theorem setRegister_pending (p : Pattern) (v : Nat) : (s.setRegister p v).pending = s.pending := rfl
@[simp] theorem setRegister_out (p : Pattern) (v : Nat) : (s.setRegister p v).out = s.out := rfl
@[simp] theorem setRegister_faulted (p : Pattern) (v : Nat) : (s.setRegister p v).faulted = s.faulted := rfl
@[simp] theorem setRegister_tickEnabled (p : Pattern) (v : Nat) : (s.setRegister p v).tickEnabled = s.tickEnabled := rfl

/-! ### setRunning -/

@[simp] theorem setRunning_mode (r : Bool) : (s.setRunning r).mode = s.mode := rfl
@[simp] theorem setRunning_pattern (r : Bool) : (s.setRunning r).pattern = s.pattern := rfl
@[simp] theorem setRunning_value (r : Bool) : (s.setRunning r).value = s.value := rfl
@[simp] theorem setRunning_running (r : Bool) : (s.setRunning r).running = r := rfl
@[simp] theorem setRunning_interval (r : Bool) : (s.setRunning r).interval = s.interval := rfl
@[simp] theorem setRunning_hist (r : Bool) : (s.setRunning r).hist = s.hist := rfl
@[simp] theorem setRunning_status (r : Bool) : (s.setRunning r).status = s.status := rfl
@[simp] theorem setRunning_fcmd (r : Bool) : (s.setRunning r).fcmd = s.fcmd := rfl
@[simp] theorem setRunning_elapsed (r : Bool) : (s.setRunning r).elapsed = s.elapsed := rfl
@[simp] theorem setRunning_policy (r : Bool) : (s.setRunning r).policy = s.policy := rfl
@[simp] theorem setRunning_timing (r : Bool) : (s.setRunning r).timing = s.timing := rfl
@[simp] theorem setRunning_pending (r : Bool) : (s.setRunning r).pending = s.pending := rfl
@[simp] theorem setRunning_out (r : Bool) : (s.setRunning r).out = s.out := rfl
@[simp] theorem setRunning_faulted (r : Bool) : (s.setRunning r).faulted = s.faulted := rfl

/-! ### setInterval -/

@[simp] theorem setInterval_mode (n : Interval) : (s.setInterval n).mode = s.mode := rfl
@[simp] theorem setInterval_pattern (n : Interval) : (s.setInterval n).pattern = s.pattern := rfl
@[simp] theorem setInterval_value (n : Interval) : (s.setInterval n).value = s.value := rfl
@[simp] theorem setInterval_running (n : Interval) : (s.setInterval n).running = s.running := rfl
@[simp] theorem setInterval_interval (n : Interval) : (s.setInterval n).interval = n := rfl
@[simp] theorem setInterval_hist (n : Interval) : (s.setInterval n).hist = s.hist := rfl
@[simp] theorem setInterval_status (n : Interval) : (s.setInterval n).status = s.status := rfl
@[simp] theorem setInterval_fcmd (n : Interval) : (s.setInterval n).fcmd = s.fcmd := rfl
@[simp] theorem setInterval_elapsed (n : Interval) : (s.setInterval n).elapsed = s.elapsed := rfl
@[simp] theorem setInterval_policy (n : Interval) : (s.setInterval n).policy = s.policy := rfl
@[simp] theorem setInterval_timing (n : Interval) : (s.setInterval n).timing = s.timing := rfl
@[simp] theorem setInterval_pending (n : Interval) : (s.setInterval n).pending = s.pending := rfl
@[simp] theorem setInterval_out (n : Interval) : (s.setInterval n).out = s.out := rfl
@[simp] theorem setInterval_faulted (n : Interval) : (s.setInterval n).faulted = s.faulted := rfl
@[simp] theorem setInterval_tickEnabled (n : Interval) : (s.setInterval n).tickEnabled = s.tickEnabled := rfl

/-! ### setHist -/

@[simp] theorem setHist_mode (h : List Sample) : (s.setHist h).mode = s.mode := rfl
@[simp] theorem setHist_pattern (h : List Sample) : (s.setHist h).pattern = s.pattern := rfl
@[simp] theorem setHist_value (h : List Sample) : (s.setHist h).value = s.value := rfl
@[simp] theorem setHist_running (h : List Sample) : (s.setHist h).running = s.running := rfl
@[simp] theorem setHist_interval (h : List Sample) : (s.setHist h).interval = s.interval := rfl
@[simp] theorem setHist_hist (h : List Sample) : (s.setHist h).hist = h := rfl
@[simp] theorem setHist_status (h : List Sample) : (s.setHist h).status = s.status := rfl
@[simp] theorem setHist_fcmd (h : List Sample) : (s.setHist h).fcmd = s.fcmd := rfl
@[simp] theorem setHist_elapsed (h : List Sample) : (s.setHist h).elapsed = s.elapsed := rfl
@[simp] theorem setHist_policy (h : List Sample) : (s.setHist h).policy = s.policy := rfl
@[simp] theorem setHist_timing (h : List Sample) : (s.setHist h).timing = s.timing := rfl
@[simp] theorem setHist_pending (h : List Sample) : (s.setHist h).pending = s.pending := rfl
@[simp] theorem setHist_out (h : List Sample) : (s.setHist h).out = s.out := rfl
@[simp] theorem setHist_faulted (h : List Sample) : (s.setHist h).faulted = s.faulted := rfl
@[simp] theorem setHist_tickEnabled (h : List Sample) : (s.setHist h).tickEnabled = s.tickEnabled := rfl

/-! ### setFault -/

@[simp] theorem setFault_mode (st : BitVec 16) (w : CmdWord) : (s.setFault st w).mode = s.mode := rfl
@[simp] theorem setFault_pattern (st : BitVec 16) (w : CmdWord) : (s.setFault st w).pattern = s.pattern := rfl
@[simp] theorem setFault_value (st : BitVec 16) (w : CmdWord) : (s.setFault st w).value = s.value := rfl
@[simp] theorem setFault_running (st : BitVec 16) (w : CmdWord) : (s.setFault st w).running = s.running := rfl
@[simp] theorem setFault_interval (st : BitVec 16) (w : CmdWord) : (s.setFault st w).interval = s.interval := rfl
@[simp] theorem setFault_hist (st : BitVec 16) (w : CmdWord) : (s.setFault st w).hist = s.hist := rfl
@[simp] theorem setFault_status (st : BitVec 16) (w : CmdWord) : (s.setFault st w).status = st := rfl
@[simp] theorem setFault_fcmd (st : BitVec 16) (w : CmdWord) : (s.setFault st w).fcmd = w := rfl
@[simp] theorem setFault_elapsed (st : BitVec 16) (w : CmdWord) : (s.setFault st w).elapsed = s.elapsed := rfl
@[simp] theorem setFault_policy (st : BitVec 16) (w : CmdWord) : (s.setFault st w).policy = s.policy := rfl
@[simp] theorem setFault_timing (st : BitVec 16) (w : CmdWord) : (s.setFault st w).timing = s.timing := rfl
@[simp] theorem setFault_pending (st : BitVec 16) (w : CmdWord) : (s.setFault st w).pending = s.pending := rfl
@[simp] theorem setFault_out (st : BitVec 16) (w : CmdWord) : (s.setFault st w).out = s.out := rfl

/-! ### setElapsed -/

@[simp] theorem setElapsed_mode (t : Nat) : (s.setElapsed t).mode = s.mode := rfl
@[simp] theorem setElapsed_pattern (t : Nat) : (s.setElapsed t).pattern = s.pattern := rfl
@[simp] theorem setElapsed_value (t : Nat) : (s.setElapsed t).value = s.value := rfl
@[simp] theorem setElapsed_running (t : Nat) : (s.setElapsed t).running = s.running := rfl
@[simp] theorem setElapsed_interval (t : Nat) : (s.setElapsed t).interval = s.interval := rfl
@[simp] theorem setElapsed_hist (t : Nat) : (s.setElapsed t).hist = s.hist := rfl
@[simp] theorem setElapsed_status (t : Nat) : (s.setElapsed t).status = s.status := rfl
@[simp] theorem setElapsed_fcmd (t : Nat) : (s.setElapsed t).fcmd = s.fcmd := rfl
@[simp] theorem setElapsed_elapsed (t : Nat) : (s.setElapsed t).elapsed = t := rfl
@[simp] theorem setElapsed_policy (t : Nat) : (s.setElapsed t).policy = s.policy := rfl
@[simp] theorem setElapsed_timing (t : Nat) : (s.setElapsed t).timing = s.timing := rfl
@[simp] theorem setElapsed_pending (t : Nat) : (s.setElapsed t).pending = s.pending := rfl
@[simp] theorem setElapsed_out (t : Nat) : (s.setElapsed t).out = s.out := rfl
@[simp] theorem setElapsed_faulted (t : Nat) : (s.setElapsed t).faulted = s.faulted := rfl
@[simp] theorem setElapsed_tickEnabled (t : Nat) : (s.setElapsed t).tickEnabled = s.tickEnabled := rfl

/-! ### setPending -/

@[simp] theorem setPending_mode (es : List Event) : (s.setPending es).mode = s.mode := rfl
@[simp] theorem setPending_pattern (es : List Event) : (s.setPending es).pattern = s.pattern := rfl
@[simp] theorem setPending_value (es : List Event) : (s.setPending es).value = s.value := rfl
@[simp] theorem setPending_running (es : List Event) : (s.setPending es).running = s.running := rfl
@[simp] theorem setPending_interval (es : List Event) : (s.setPending es).interval = s.interval := rfl
@[simp] theorem setPending_hist (es : List Event) : (s.setPending es).hist = s.hist := rfl
@[simp] theorem setPending_status (es : List Event) : (s.setPending es).status = s.status := rfl
@[simp] theorem setPending_fcmd (es : List Event) : (s.setPending es).fcmd = s.fcmd := rfl
@[simp] theorem setPending_elapsed (es : List Event) : (s.setPending es).elapsed = s.elapsed := rfl
@[simp] theorem setPending_policy (es : List Event) : (s.setPending es).policy = s.policy := rfl
@[simp] theorem setPending_timing (es : List Event) : (s.setPending es).timing = s.timing := rfl
@[simp] theorem setPending_pending (es : List Event) : (s.setPending es).pending = es := rfl
@[simp] theorem setPending_out (es : List Event) : (s.setPending es).out = s.out := rfl
@[simp] theorem setPending_faulted (es : List Event) : (s.setPending es).faulted = s.faulted := rfl
@[simp] theorem setPending_tickEnabled (es : List Event) : (s.setPending es).tickEnabled = s.tickEnabled := rfl

/-! ### emit -/

@[simp] theorem emit_mode (o : Output) : (s.emit o).mode = s.mode := rfl
@[simp] theorem emit_pattern (o : Output) : (s.emit o).pattern = s.pattern := rfl
@[simp] theorem emit_value (o : Output) : (s.emit o).value = s.value := rfl
@[simp] theorem emit_running (o : Output) : (s.emit o).running = s.running := rfl
@[simp] theorem emit_interval (o : Output) : (s.emit o).interval = s.interval := rfl
@[simp] theorem emit_hist (o : Output) : (s.emit o).hist = s.hist := rfl
@[simp] theorem emit_status (o : Output) : (s.emit o).status = s.status := rfl
@[simp] theorem emit_fcmd (o : Output) : (s.emit o).fcmd = s.fcmd := rfl
@[simp] theorem emit_elapsed (o : Output) : (s.emit o).elapsed = s.elapsed := rfl
@[simp] theorem emit_policy (o : Output) : (s.emit o).policy = s.policy := rfl
@[simp] theorem emit_timing (o : Output) : (s.emit o).timing = s.timing := rfl
@[simp] theorem emit_pending (o : Output) : (s.emit o).pending = s.pending := rfl
@[simp] theorem emit_out (o : Output) : (s.emit o).out = s.out ++ [o] := rfl
@[simp] theorem emit_faulted (o : Output) : (s.emit o).faulted = s.faulted := rfl
@[simp] theorem emit_tickEnabled (o : Output) : (s.emit o).tickEnabled = s.tickEnabled := rfl

/-! ### cue -/

@[simp] theorem cue_mode (k : CueKind) : (s.cue k).mode = s.mode := rfl
@[simp] theorem cue_pattern (k : CueKind) : (s.cue k).pattern = s.pattern := rfl
@[simp] theorem cue_value (k : CueKind) : (s.cue k).value = s.value := rfl
@[simp] theorem cue_running (k : CueKind) : (s.cue k).running = s.running := rfl
@[simp] theorem cue_interval (k : CueKind) : (s.cue k).interval = s.interval := rfl
@[simp] theorem cue_hist (k : CueKind) : (s.cue k).hist = s.hist := rfl
@[simp] theorem cue_status (k : CueKind) : (s.cue k).status = s.status := rfl
@[simp] theorem cue_fcmd (k : CueKind) : (s.cue k).fcmd = s.fcmd := rfl
@[simp] theorem cue_elapsed (k : CueKind) : (s.cue k).elapsed = s.elapsed := rfl
@[simp] theorem cue_policy (k : CueKind) : (s.cue k).policy = s.policy := rfl
@[simp] theorem cue_timing (k : CueKind) : (s.cue k).timing = s.timing := rfl
@[simp] theorem cue_pending (k : CueKind) : (s.cue k).pending = s.pending := rfl
@[simp] theorem cue_out (k : CueKind) : (s.cue k).out = s.out ++ [.cue k s.value] := rfl
@[simp] theorem cue_faulted (k : CueKind) : (s.cue k).faulted = s.faulted := rfl
@[simp] theorem cue_tickEnabled (k : CueKind) : (s.cue k).tickEnabled = s.tickEnabled := rfl

end Sys2Proof.Machine
end

