-- ==== Sys2Proof/Laws/Ops.lean ====
section
/-! SUPPORT. What the shared operations of Machine/Ops.lean can do, said once: the four ways a decoded command ends, fault
entry, and power-on reset. -/

namespace Sys2Proof.Machine

theorem faultStatus_bit15 (c : Cause) : (faultStatus c).getLsbD 15 = true := by cases c <;> decide

theorem faultStatus_code (c : Cause) : (faultStatus c).extractLsb' 0 4 = c.code := by cases c <;> decide

/-- Fault entry sets FAULTED. -/
@[simp] theorem raiseFault_faulted (c : Cause) (w : CmdWord) (s : State) : (raiseFault c w s).faulted = true :=
  faultStatus_bit15 c

/-- Fault entry holds the cause's code in CAUSE. -/
@[simp] theorem raiseFault_cause (c : Cause) (w : CmdWord) (s : State) : (raiseFault c w s).cause = c.code :=
  faultStatus_code c

/-- A faulted block ignores a command. -/
theorem runCommand_of_faulted {α : Type} (i : Instr) (operand : Except Cause α) (effect : α → State → State) {s : State}
    (h : s.faulted = true) : runCommand i operand effect s = s := by
  simp [runCommand, h]

/-- An operand out of its domain faults in every mode. -/
theorem runCommand_of_error {α : Type} (i : Instr) (c : Cause) (effect : α → State → State) {s : State}
    (h : s.faulted = false) : runCommand i (.error c) effect s = raiseFault c (encode i) s := by
  simp [runCommand, h]

/-- A command the mode forbids is ignored. -/
theorem runCommand_of_illegal {α : Type} (i : Instr) (a : α) (effect : α → State → State) {s : State}
    (h : legal i s.mode = false) : runCommand i (.ok a) effect s = s := by
  simp [runCommand, h]

/-- A command with a good operand has its effect in a mode that allows it. -/
theorem runCommand_of_legal {α : Type} (i : Instr) (a : α) (effect : α → State → State) {s : State}
    (h : s.faulted = false) (hl : legal i s.mode = true) : runCommand i (.ok a) effect s = effect a s := by
  simp [runCommand, h, hl]

/-- Everything a decoded command can do: nothing, fault entry, or its effect on a checked operand. -/
theorem runCommand_cases {α : Type} (i : Instr) (operand : Except Cause α) (effect : α → State → State) (s : State) :
    runCommand i operand effect s = s ∨
    (∃ c, operand = .error c ∧ s.faulted = false ∧ runCommand i operand effect s = raiseFault c (encode i) s) ∨
    (∃ a, operand = .ok a ∧ s.faulted = false ∧ legal i s.mode = true ∧
      runCommand i operand effect s = effect a s) := by
  cases hf : s.faulted with
  | true => exact .inl (runCommand_of_faulted i operand effect hf)
  | false =>
    cases operand with
    | error c => exact .inr (.inl ⟨c, rfl, rfl, runCommand_of_error i c effect hf⟩)
    | ok a =>
      cases hl : legal i s.mode with
      | true => exact .inr (.inr ⟨a, rfl, rfl, rfl, runCommand_of_legal i a effect hf hl⟩)
      | false => exact .inl (runCommand_of_illegal i a effect hl)

/-- Power-on reset gives the power-on state of the same parameters, with the same events pending. -/
theorem powerOnReset_eq (s : State) :
    powerOnReset s = { State.powerOn s.policy s.timing with pending := s.pending } := rfl

end Sys2Proof.Machine
end

