-- ==== Sys2Proof/Laws/History.lean ====
section
/-! SUPPORT. What `afterWrite` and `mutate` can do: they write HIST and raise one CUE event, or nothing, and touch no other
field. -/

namespace Sys2Proof.Machine

variable (k : WriteKind) (oldP : Pattern) (oldV : Value) (s : State)

/-- `afterWrite` records and raises a Mutation event, or does nothing. -/
theorem afterWrite_cases :
    (recordFires k oldP oldV s = true ∧ afterWrite k oldP oldV s = (record s.value.toNat s.mode s).cue .mutation) ∨
    (recordFires k oldP oldV s = false ∧ afterWrite k oldP oldV s = s) := by
  cases h : recordFires k oldP oldV s <;> simp [afterWrite, h]

@[simp] theorem afterWrite_mode : (afterWrite k oldP oldV s).mode = s.mode := by
  rcases afterWrite_cases k oldP oldV s with ⟨-, h⟩ | ⟨-, h⟩ <;> simp [h, record]
@[simp] theorem afterWrite_pattern : (afterWrite k oldP oldV s).pattern = s.pattern := by
  rcases afterWrite_cases k oldP oldV s with ⟨-, h⟩ | ⟨-, h⟩ <;> simp [h, record]
@[simp] theorem afterWrite_value : (afterWrite k oldP oldV s).value = s.value := by
  rcases afterWrite_cases k oldP oldV s with ⟨-, h⟩ | ⟨-, h⟩ <;> simp [h, record]
@[simp] theorem afterWrite_running : (afterWrite k oldP oldV s).running = s.running := by
  rcases afterWrite_cases k oldP oldV s with ⟨-, h⟩ | ⟨-, h⟩ <;> simp [h, record]
@[simp] theorem afterWrite_interval : (afterWrite k oldP oldV s).interval = s.interval := by
  rcases afterWrite_cases k oldP oldV s with ⟨-, h⟩ | ⟨-, h⟩ <;> simp [h, record]
@[simp] theorem afterWrite_status : (afterWrite k oldP oldV s).status = s.status := by
  rcases afterWrite_cases k oldP oldV s with ⟨-, h⟩ | ⟨-, h⟩ <;> simp [h, record]
@[simp] theorem afterWrite_fcmd : (afterWrite k oldP oldV s).fcmd = s.fcmd := by
  rcases afterWrite_cases k oldP oldV s with ⟨-, h⟩ | ⟨-, h⟩ <;> simp [h, record]
@[simp] theorem afterWrite_elapsed : (afterWrite k oldP oldV s).elapsed = s.elapsed := by
  rcases afterWrite_cases k oldP oldV s with ⟨-, h⟩ | ⟨-, h⟩ <;> simp [h, record]
@[simp] theorem afterWrite_policy : (afterWrite k oldP oldV s).policy = s.policy := by
  rcases afterWrite_cases k oldP oldV s with ⟨-, h⟩ | ⟨-, h⟩ <;> simp [h, record]
@[simp] theorem afterWrite_timing : (afterWrite k oldP oldV s).timing = s.timing := by
  rcases afterWrite_cases k oldP oldV s with ⟨-, h⟩ | ⟨-, h⟩ <;> simp [h, record]
@[simp] theorem afterWrite_pending : (afterWrite k oldP oldV s).pending = s.pending := by
  rcases afterWrite_cases k oldP oldV s with ⟨-, h⟩ | ⟨-, h⟩ <;> simp [h, record]
@[simp] theorem afterWrite_faulted : (afterWrite k oldP oldV s).faulted = s.faulted := by
  rcases afterWrite_cases k oldP oldV s with ⟨-, h⟩ | ⟨-, h⟩ <;> simp [h, record]

/-- The history after `afterWrite`: the new sample in front of the newest 39, or unchanged. -/
theorem afterWrite_hist : (afterWrite k oldP oldV s).hist =
    if recordFires k oldP oldV s then (sample s.value.toNat s.mode :: s.hist).take 40 else s.hist := by
  rcases afterWrite_cases k oldP oldV s with ⟨hf, h⟩ | ⟨hf, h⟩ <;> rw [h, hf] <;> rfl

/-- The outputs after `afterWrite`: one Mutation event more, or unchanged. -/
theorem afterWrite_out : (afterWrite k oldP oldV s).out =
    if recordFires k oldP oldV s then s.out ++ [.cue .mutation s.value] else s.out := by
  rcases afterWrite_cases k oldP oldV s with ⟨hf, h⟩ | ⟨hf, h⟩ <;> rw [h, hf] <;> rfl

variable (p : Pattern) (v : Nat)

@[simp] theorem mutate_pattern : (mutate p v s).pattern = p := by simp [mutate]
@[simp] theorem mutate_value : (mutate p v s).value = BitVec.ofNat 7 v := by simp [mutate]
@[simp] theorem mutate_mode : (mutate p v s).mode = s.mode := by simp [mutate]
@[simp] theorem mutate_running : (mutate p v s).running = s.running := by simp [mutate]
@[simp] theorem mutate_interval : (mutate p v s).interval = s.interval := by simp [mutate]
@[simp] theorem mutate_status : (mutate p v s).status = s.status := by simp [mutate]
@[simp] theorem mutate_fcmd : (mutate p v s).fcmd = s.fcmd := by simp [mutate]
@[simp] theorem mutate_elapsed : (mutate p v s).elapsed = s.elapsed := by simp [mutate]
@[simp] theorem mutate_policy : (mutate p v s).policy = s.policy := by simp [mutate]
@[simp] theorem mutate_timing : (mutate p v s).timing = s.timing := by simp [mutate]
@[simp] theorem mutate_pending : (mutate p v s).pending = s.pending := by simp [mutate]
@[simp] theorem mutate_faulted : (mutate p v s).faulted = s.faulted := by simp [mutate]

end Sys2Proof.Machine
end

