-- ==== Sys2Proof/Laws/PerInstr.lean ====
section
/-! SUPPORT. What holds of every command as syntax, one lemma per constructor. -/

namespace Sys2Proof.Laws

/-- The opcode map's row for a command (30_encoding.md R63): opcode, match and mask, as spec/opcode_table.json lists
them. -/
def RowMatch.expected : Instr → BitVec 4 × CmdWord × CmdWord
  | .selmode _ => (0x1, 0x1000, 0xFFFC)
  | .toggle _ => (0x2, 0x2000, 0xFFF8)
  | .loadpat _ => (0x3, 0x3000, 0xFF80)
  | .step => (0x4, 0x4000, 0xFFFF)
  | .nav _ => (0x5, 0x5000, 0xFFFE)
  | .reset => (0x6, 0x6000, 0xFFFF)
  | .seldig _ => (0x7, 0x7000, 0xFFF0)
  | .setrun _ => (0x8, 0x8000, 0xFFFE)
  | .setivl _ => (0x9, 0x9000, 0xFC00)

/-- The command's word selects its own row of the opcode map, whatever the operand (30_encoding.md R63). -/
def RowMatch.Statement (i : Instr) : Prop :=
  opcodeOf (encode i) = (RowMatch.expected i).1 ∧
  encode i &&& (RowMatch.expected i).2.2 = (RowMatch.expected i).2.1

theorem RowMatch.selmode (m : BitVec 2) : RowMatch.Statement (.selmode m) := by
  unfold RowMatch.Statement
  revert m; decide

theorem RowMatch.toggle (i : BitVec 3) : RowMatch.Statement (.toggle i) := by
  unfold RowMatch.Statement
  revert i; decide

theorem RowMatch.loadpat (p : Pattern) : RowMatch.Statement (.loadpat p) := by
  unfold RowMatch.Statement
  revert p; decide

theorem RowMatch.step : RowMatch.Statement .step := by
  unfold RowMatch.Statement; decide

theorem RowMatch.nav (dir : Direction) : RowMatch.Statement (.nav dir) := by
  unfold RowMatch.Statement
  cases dir <;> decide

theorem RowMatch.reset : RowMatch.Statement .reset := by
  unfold RowMatch.Statement; decide

theorem RowMatch.seldig (d : BitVec 4) : RowMatch.Statement (.seldig d) := by
  unfold RowMatch.Statement
  revert d; decide

theorem RowMatch.setrun (r : Bool) : RowMatch.Statement (.setrun r) := by
  unfold RowMatch.Statement
  cases r <;> decide

theorem RowMatch.setivl (n : Interval) : RowMatch.Statement (.setivl n) := by
  constructor
  · ext j hj
    simp only [opcodeOf, encode, RowMatch.expected]
    interval_cases j <;> simp
  · ext j hj
    simp only [encode, RowMatch.expected]
    interval_cases j <;> simp

end Sys2Proof.Laws
end

