-- ==== Sys2Proof/Laws/Step.lean ====
section
/-! SUPPORT. What one step does, by what is pending; and the frame of the scheduler's operations. -/

namespace Sys2Proof.Machine

/-- With nothing pending a step is the scheduler's turn. -/
theorem step_of_idle {s : State} (h : s.pending = []) : step s = .next (schedulerTurn s) := by
  simp [step, takeEffect, h]

/-- A step delivers the next pending event to the state without it. -/
theorem step_of_pending {s : State} {e : Event} {rest : List Event} (h : s.pending = e :: rest) :
    step s = deliver e (s.setPending rest) := by
  simp [step, takeEffect, h]

/-- A command answers a next state, whatever the state. -/
theorem exec_is_next (i : Instr) (s : State) : ∃ t, exec i s = .next t := by
  cases i <;> exact ⟨_, rfl⟩

/-- Everything a command word can do. -/
theorem submit_cases (w : CmdWord) (s : State) :
    (s.faulted = true ∧ submit w s = .next s) ∨
    (∃ c, s.faulted = false ∧ decode w = .error c ∧ submit w s = .next (raiseFault c w s)) ∨
    (∃ i, s.faulted = false ∧ decode w = .ok i ∧ submit w s = exec i s) := by
  cases hf : s.faulted with
  | true => exact .inl ⟨rfl, by simp [submit, hf]⟩
  | false =>
    cases hd : decode w with
    | error c => exact .inr (.inl ⟨c, rfl, rfl, by simp [submit, hf, hd]⟩)
    | ok i => exact .inr (.inr ⟨i, rfl, rfl, by simp [submit, hf, hd]⟩)

/-- `restartElapsed` writes ELAPSED in the timed refinement, and nothing otherwise. -/
theorem restartElapsed_cases (s : State) :
    (s.timing = .untimed ∧ restartElapsed s = s) ∨ (s.timing = .timed ∧ restartElapsed s = s.setElapsed 0) := by
  cases h : s.timing <;> simp [restartElapsed, h]

/-- Whether a TICK is due does not depend on what is pending. -/
@[simp] theorem setPending_tickDue (s : State) (es : List Event) : (s.setPending es).tickDue = s.tickDue := rfl

/-- In the untimed model a TICK is due exactly when it is enabled (43_scheduler.md R150). -/
theorem tickDue_of_untimed {s : State} (h : s.timing = .untimed) : s.tickDue = s.tickEnabled := by
  simp [State.tickDue, h]

/-- In the timed refinement a TICK is due when it is enabled and ELAPSED has reached INTERVAL (43_scheduler.md R155). -/
theorem tickDue_of_timed {s : State} (h : s.timing = .timed) :
    s.tickDue = true ↔ s.tickEnabled = true ∧ s.interval.toNat ≤ s.elapsed := by
  simp [State.tickDue, h]

/-- A TICK that is not enabled is never due. -/
theorem tickDue_of_not_enabled {s : State} (h : s.tickEnabled = false) : s.tickDue = false := by
  simp [State.tickDue, h]

/-- A tick without a due TICK step is discarded (43_scheduler.md R151). -/
theorem schedulerTurn_of_not_due {s : State} (h : s.tickDue = false) : schedulerTurn s = s := by
  simp [schedulerTurn, h]

/-- A due TICK steps the register (43_scheduler.md R151). -/
theorem schedulerTurn_of_due {s : State} (h : s.tickDue = true) :
    schedulerTurn s = restartElapsed (stepRegister s) := by
  simp [schedulerTurn, h]

end Sys2Proof.Machine
end

