-- ==== Sys2Proof/Tests/Slice0.lean ====
section
/-! SUPPORT. Small tests, their expected results from the spec's own tables (95_test_vectors.md, and the rules named), and
for each statement with hypotheses a witness that meets them. -/

namespace Sys2Proof.Tests

open Sys2Proof Sys2Proof.Machine

/-! ### Helpers -/

/-- A state in mode m with the register (p, v). -/
def at_ (m : Mode) (p : Pattern) (v : Value) : State := { State.reset with mode := m, pattern := p, value := v }

/-- The state running. -/
def run_ (s : State) : State := { s with running := true }

/-- The state under OnRegisterChange. -/
def onRc (s : State) : State := { s with policy := .onRegisterChange }

/-- The state with these events pending. -/
def with_ (s : State) (es : List Event) : State := { s with pending := es }

/-- A faulted state: TOGGLE 7 has been sent (95_test_vectors.md V-FAULT). -/
def faulted_ (s : State) : State := { s with status := 0x8004, fcmd := 0x2007 }

/-- The outcome is a next state of which p holds. -/
def gives (o : Host.Outcome State Fault Refusal) (p : State → Bool) : Bool :=
  match o with
  | .next t => p t
  | .fault _ => false
  | .refused _ => false

/-! ### Well-formedness refuses each ill-formed operand (30_encoding.md R66) -/

theorem test_wellFormed_refuses :
    (Instr.selmode 3).wellFormed = false ∧ (Instr.toggle 7).wellFormed = false ∧
    (Instr.seldig 10).wellFormed = false ∧ (Instr.setivl 49).wellFormed = false ∧
    (Instr.setivl 1001).wellFormed = false := by decide

theorem test_wellFormed_accepts :
    (Instr.selmode 2).wellFormed = true ∧ (Instr.toggle 6).wellFormed = true ∧
    (Instr.seldig 9).wellFormed = true ∧ (Instr.setivl 50).wellFormed = true ∧
    (Instr.setivl 1000).wellFormed = true := by decide

/-! ### Decoding: words written out from the formats of 30_encoding.md R61 and V-DEC -/

theorem test_decode_selmode : decode 0b0001000000000010 = .ok (.selmode 2) := by decide
theorem test_decode_toggle : decode 0b0010000000000110 = .ok (.toggle 6) := by decide
theorem test_decode_loadpat : decode 0b0011000001010000 = .ok (.loadpat 0b1010000) := by decide
theorem test_decode_step : decode 0b0100000000000000 = .ok .step := by decide
theorem test_decode_nav : decode 0b0101000000000000 = .ok (.nav .plus) ∧
    decode 0b0101000000000001 = .ok (.nav .minus) := by decide
theorem test_decode_reset : decode 0b0110000000000000 = .ok .reset := by decide
theorem test_decode_seldig : decode 0b0111000000001001 = .ok (.seldig 9) := by decide
theorem test_decode_setrun : decode 0b1000000000000001 = .ok (.setrun true) ∧
    decode 0b1000000000000000 = .ok (.setrun false) := by decide
theorem test_decode_setivl : decode 0b1001001111101000 = .ok (.setivl 1000) := by decide
theorem test_decode_reserved_opcode :
    decode 0x0000 = .error .reservedOpcode ∧ decode 0xA000 = .error .reservedOpcode ∧
    decode 0xFFFF = .error .reservedOpcode := by decide
theorem test_decode_reserved_bits :
    decode 0x1004 = .error .reservedBits ∧ decode 0x2008 = .error .reservedBits ∧
    decode 0x3080 = .error .reservedBits ∧ decode 0x4001 = .error .reservedBits ∧
    decode 0x5002 = .error .reservedBits ∧ decode 0x7010 = .error .reservedBits ∧
    decode 0x8002 = .error .reservedBits ∧ decode 0x9400 = .error .reservedBits := by decide
theorem test_encode_words :
    encode (.selmode 2) = 0x1002 ∧ encode (.toggle 6) = 0x2006 ∧ encode (.loadpat 0x50) = 0x3050 ∧
    encode .step = 0x4000 ∧ encode (.nav .minus) = 0x5001 ∧ encode .reset = 0x6000 ∧
    encode (.seldig 7) = 0x7007 ∧ encode (.setrun true) = 0x8001 ∧ encode (.setivl 100) = 0x9064 := by decide
theorem test_decodeTableWord : decodeTableWord 16 0x5001 = some (.nav .minus) ∧ decodeTableWord 16 0 = none := by decide

/-! ### Each instruction (95_test_vectors.md V-MODE, V-REG, V-SCHED; the rules' own examples) -/

/-- V-MODE row 3: the sample is recorded under OnRegisterChange only, after the ModeChange event. -/
theorem test_selmode_counter :
    gives (exec (.selmode 2) (run_ (at_ .animation 0x04 4))) (fun t =>
      t.mode == .counter && t.pattern == 0x7E && t.value == 0 && !t.running && t.hist == []
        && t.out == [.cue .modeChange 0]) ∧
    gives (exec (.selmode 2) (onRc (at_ .animation 0x04 4))) (fun t =>
      t.hist == [0] && t.out == [.cue .modeChange 0, .cue .mutation 0]) := by decide

/-- V-DEC: 0x1003 faults in any mode. -/
theorem test_selmode_3_faults :
    gives (exec (.selmode 3) (at_ .manual 0 0)) (fun t => t.status == 0x8003 && t.fcmd == 0x1003 && t.mode == .manual) := by
  decide

/-- V-MODE: RESET in Counter, and at the default, which records under PerMutation only. -/
theorem test_reset_counter :
    gives (exec .reset (run_ (at_ .counter 0x5F 6))) (fun t =>
      t.mode == .counter && t.pattern == 0x7E && t.value == 0 && !t.running && t.hist == [0]) ∧
    gives (exec .reset (onRc (at_ .counter 0x7E 0))) (fun t => t.hist == [] && t.out == []) := by decide

/-- V-REG rows 1 and 2: segment a is bit 6. -/
theorem test_toggle_a :
    gives (exec (.toggle 0) (at_ .manual 0x7F 127)) (fun t => t.pattern == 0x3F && t.value == 63 && t.hist == [630]) := by
  decide

/-- V-DEC, V-REG: index 7 faults in Counter mode; a legal TOGGLE is ignored there. -/
theorem test_toggle_in_counter :
    gives (exec (.toggle 7) (at_ .counter 0x5B 5)) (fun t => t.status == 0x8004 && t.fcmd == 0x2007 && t.value == 5) ∧
    gives (exec (.toggle 0) (at_ .counter 0x7E 0)) (fun t => t == at_ .counter 0x7E 0) := by decide

/-- V-REG: LOADPAT in Animation; of the same pattern under each policy; ignored in Counter. -/
theorem test_loadpat :
    gives (exec (.loadpat 0x50) (run_ (at_ .animation 0x05 5))) (fun t =>
      t.pattern == 0x50 && t.value == 80 && t.hist == [800] && t.running) ∧
    gives (exec (.loadpat 0x50) (onRc (at_ .manual 0x50 80))) (fun t => t.hist == []) ∧
    gives (exec (.loadpat 0x7F) (at_ .counter 0x30 1)) (fun t => t == at_ .counter 0x30 1) := by decide

/-- V-REG: STEP wraps 127 to 0 and 9 to 0. -/
theorem test_step_wraps :
    gives (exec .step (at_ .animation 0x7F 127)) (fun t => t.pattern == 0x00 && t.value == 0 && t.hist == [0]) ∧
    gives (exec .step (at_ .counter 0x7B 9)) (fun t => t.pattern == 0x7E && t.value == 0) := by decide

/-- V-REG: STEP in Counter records on the Counter scale; it is ignored in Manual. -/
theorem test_step_counter_and_manual :
    gives (exec .step (at_ .counter 0x7F 8)) (fun t => t.pattern == 0x7B && t.value == 9 && t.hist == [1143]) ∧
    gives (exec .step (at_ .manual 0x40 64)) (fun t => t == at_ .manual 0x40 64) := by decide

/-- V-REG: NAV -1 from 0 gives 9, NAV +1 from 9 gives 0. -/
theorem test_nav_wraps :
    gives (exec (.nav .minus) (at_ .counter 0x7E 0)) (fun t => t.pattern == 0x7B && t.value == 9 && t.hist == [1143]) ∧
    gives (exec (.nav .plus) (at_ .counter 0x7B 9)) (fun t => t.pattern == 0x7E && t.value == 0) := by decide

/-- V-REG: SELDIG 7, and 12 faults in Manual mode. -/
theorem test_seldig :
    gives (exec (.seldig 7) (at_ .counter 0x7E 0)) (fun t => t.pattern == 0x70 && t.value == 7 && t.hist == [889]) ∧
    gives (exec (.seldig 12) (at_ .manual 0 0)) (fun t => t.status == 0x8005 && t.fcmd == 0x700C) := by decide

/-- V-SCHED: SETRUN starts in Animation and is ignored in Manual. -/
theorem test_setrun :
    gives (exec (.setrun true) (at_ .animation 0 0)) (fun t => t.running && t.tickEnabled && t.hist == [] && t.out == []) ∧
    gives (exec (.setrun true) (at_ .manual 0 0)) (fun t => !t.running) := by decide

/-- V-SCHED: SETIVL 100 in Manual; 49 and 1001 fault and leave INTERVAL. -/
theorem test_setivl :
    gives (exec (.setivl 100) (at_ .manual 0 0)) (fun t => t.interval == 100) ∧
    gives (exec (.setivl 49) (at_ .manual 0 0)) (fun t => t.status == 0x8006 && t.fcmd == 0x9031 && t.interval == 250) ∧
    gives (exec (.setivl 1001) (at_ .manual 0 0)) (fun t => t.status == 0x8006 && t.fcmd == 0x93E9) := by decide

/-! ### The scheduler, the ports and the host -/

/-- V-SCHED: a TICK at 127; no TICK while stopped. -/
theorem test_tick :
    gives (step (run_ (at_ .animation 0x7F 127))) (fun t => t.value == 0 && t.pattern == 0 && t.hist == [0]) ∧
    gives (step (with_ (at_ .animation 0x7F 127) [.tick])) (fun t => t == at_ .animation 0x7F 127) := by decide

/-- V-SCHED, timed: ELAPSED 120 ticks after SETIVL 100, not before; the TICK clears ELAPSED. -/
theorem test_timed_tick :
    gives (step { run_ (at_ .animation 0 0) with timing := .timed, elapsed := 120, interval := 100 }) (fun t =>
      t.value == 1 && t.elapsed == 0) ∧
    gives (step { run_ (at_ .animation 0 0) with timing := .timed, elapsed := 120 }) (fun t =>
      t.value == 0 && t.elapsed == 120) := by decide

/-- The very next step after withFetchWord runs the word. -/
theorem test_withFetchWord_steps :
    gives (step (State.reset.withFetchWord 16 0x4000)) (fun t => t.value == 1 && t.pattern == 0x01 && t.hist == [10]) ∧
    gives (step (State.reset.withFetchWord 16 0x0000)) (fun t => t.status == 0x8001) := by decide

/-- V-FAULT: the first fault's cause and word are kept. -/
theorem test_faulted_ignores :
    gives (step (with_ (faulted_ (at_ .counter 0x5B 5)) [.command 0x0000])) (fun t =>
      t == faulted_ (at_ .counter 0x5B 5)) := by decide

/-- V-FAULT: power-on reset ends the fault. -/
theorem test_powerOn_clears :
    gives (step (with_ (faulted_ (at_ .counter 0x5B 5)) [.powerOn])) (fun t => t == State.reset) := by decide

/-- Reads of P1's end state: DIGITOF and VALBCD 0x0008, MODE 2 (95_test_vectors.md P1). -/
theorem test_reads :
    readMap 0x08 (at_ .counter 0x7F 8) = .ok 0x0008 ∧ readMap 0x09 (at_ .counter 0x7F 8) = .ok 0x0008 ∧
    readMap 0x00 (at_ .counter 0x7F 8) = .ok 0x0002 ∧ readMap 0x06 (faulted_ State.reset) = .ok 0x8004 ∧
    readMap 0x49 State.reset = .ok 0x7B ∧ readMap 0x4A State.reset = .error (.unmappedRead 0x4A) ∧
    readMap 0x10 State.reset = .error (.emptyHistoryRead 0) := by decide

/-- V-LUT: VALBCD and DIGITOF. -/
theorem test_valbcd_digitof :
    valBcd 127 = 0x0127 ∧ valBcd 99 = 0x0099 ∧ valBcd 100 = 0x0100 ∧
    digitOf 0x7E = 0x0000 ∧ digitOf 0x7B = 0x0009 ∧ digitOf 0x7D = 0x8000 := by decide

/-- V-LUT: sanitize. -/
theorem test_sanitize :
    sanitize "10xx1".toList = "1010000".toList ∧ sanitize "01 10 11 00".toList = "0110110".toList ∧
    sanitize "0b1111".toList = "0111100".toList ∧ sanitize "".toList = "0000000".toList ∧
    textPattern "10xx1".toList = 0x50 := by decide

/-- P2's export: decimal 64, binary 1000000 (95_test_vectors.md P2). -/
theorem test_export :
    (snapshot [] (at_ .manual 0x40 64)).binary = "1000000".toList ∧ (snapshot [] (at_ .manual 0x40 64)).decimal = 64 := by
  decide

/-- 95_test_vectors.md P1, P2, P3: lines and their words; 30_encoding.md R69: rejected operands. -/
theorem test_assembler_words :
    assembleLine "SELMODE counter".toList = .word 0x1002 ∧ assembleLine "  toggle g ; flip g".toList = .word 0x2006 ∧
    assembleLine "LOADPAT 0b1111111".toList = .word 0x307F ∧ assembleLine "LOADTXT \"10xx1\"".toList = .word 0x3050 ∧
    assembleLine "NAV -1".toList = .word 0x5001 ∧ assembleLine "SETIVL 100".toList = .word 0x9064 ∧
    assembleLine ".word 0x2007".toList = .word 0x2007 := by decide

theorem test_assembler_rejects :
    assembleLine "SETIVL 49".toList = .rejected ∧ assembleLine "TOGGLE 7".toList = .rejected ∧
    assembleLine "SELMODE 3".toList = .rejected ∧ assembleLine "LOADPAT 0b101".toList = .rejected ∧
    assembleLine "STEP 1".toList = .rejected ∧ assembleLine "; nothing".toList = .blank := by decide

/-- V-HIST: a full buffer drops its oldest sample. -/
theorem test_record_evicts :
    (record 3 .counter { State.reset with hist := List.replicate 39 0 ++ [7] }).hist = 381 :: List.replicate 39 0 := by
  decide

/-- The end of a run (70_reset_and_hazards.md R228): not while a TICK is enabled, and not good when faulted. -/
theorem test_goodEnd :
    State.reset.goodEnd = true ∧ (run_ State.reset).runOver = false ∧ (faulted_ State.reset).runOver = true ∧
    (faulted_ State.reset).goodEnd = false := by decide

/-! ### Witnesses: states and operands that meet each statement's hypotheses together -/

theorem witness_PowerOnEventRestoresReset : (with_ (faulted_ State.reset) [.powerOn, .tick]).pending = [.powerOn, .tick] := by
  decide

theorem witness_StepKeepsModeInvariant :
    (with_ (at_ .counter 0x7B 9) [.command 0x4000]).ModeInv ∧ (∃ t, step (with_ (at_ .counter 0x7B 9) [.command 0x4000]) = .next t) ∧
    (at_ .manual 0x55 85).ModeInv ∧ (at_ .manual 0x55 85).mode ≠ .counter := ⟨by decide, ⟨_, rfl⟩, by decide, by decide⟩

theorem witness_StepKeepsControlInvariant :
    (with_ (run_ (at_ .animation 0 0)) [.command 0x1001]).ControlInv ∧
    ∃ t, step (with_ (run_ (at_ .animation 0 0)) [.command 0x1001]) = .next t := ⟨by decide, _, rfl⟩

theorem witness_StepKeepsHistoryInvariant :
    { run_ (at_ .animation 0x7E 126) with hist := List.replicate 40 1270 }.HistoryInv ∧
    ∃ t, step { run_ (at_ .animation 0x7E 126) with hist := List.replicate 40 1270 } = .next t := ⟨by decide, _, rfl⟩

theorem witness_StepKeepsFaultInvariant :
    (with_ State.reset [.command 0xFFFF]).FaultInv ∧ ∃ t, step (with_ State.reset [.command 0xFFFF]) = .next t :=
  ⟨by decide, _, rfl⟩

theorem witness_DecodedWordIsItsEncoding : decode 0x93FF = .ok (.setivl 1023) ∧ decode 0x1003 = .ok (.selmode 3) := by decide

theorem witness_ReservedOpcodeFaults :
    State.reset.faulted = false ∧ (with_ State.reset [.command 0x0FFF]).pending = [.command 0x0FFF] ∧
    (0x0FFF#16).toNat / 4096 = 0 ∧ 10 ≤ (0xA000#16).toNat / 4096 ∧ 10 ≤ (0xFFFF#16).toNat / 4096 := by decide

/-- The lowest reserved bit of each row's format. -/
theorem witness_ReservedBitsFault :
    ∀ x ∈ ([(1, 0xFFFC, 0x1000, 0x1004), (2, 0xFFF8, 0x2000, 0x2008), (3, 0xFF80, 0x3000, 0x3080), (4, 0xFFFF, 0x4000, 0x4001),
        (5, 0xFFFE, 0x5000, 0x5002), (6, 0xFFFF, 0x6000, 0x6001), (7, 0xFFF0, 0x7000, 0x7010), (8, 0xFFFE, 0x8000, 0x8002),
        (9, 0xFC00, 0x9000, 0x9400)] : List (Nat × CmdWord × CmdWord × CmdWord)),
      State.reset.faulted = false ∧ (with_ State.reset [.command x.2.2.2]).pending = [.command x.2.2.2] ∧
      x.2.2.2.toNat / 4096 = x.1 ∧ x.2.2.2 &&& x.2.1 ≠ x.2.2.1 := by decide

theorem witness_ReservedOperandsFaultInEveryMode :
    (at_ .counter 0x7E 0).faulted = false ∧ 10 ≤ (10#4).toNat ∧ 10 ≤ (15#4).toNat ∧ (49#10).toNat < 50 ∧ 1000 < (1001#10).toNat := by
  decide

theorem witness_FaultEntryWritesOnlyStatusAndFcmd :
    (at_ .counter 0x5B 5).faulted = false ∧
    gives (step (with_ (at_ .counter 0x5B 5) [.command 0x2007])) (fun t => t.faulted) = true := by decide

theorem witness_FaultedBlockIsFrozen :
    (faulted_ (run_ State.reset)).faulted = true ∧ (faulted_ (run_ State.reset)).pending = [] ∧
    (with_ (faulted_ State.reset) [.command 0x6000]).pending = [.command 0x6000] ∧
    (with_ (faulted_ (run_ State.reset)) [.tick]).pending = [.tick] ∧
    readMap 0x06 (with_ (faulted_ State.reset) [.read 0x06]) = .ok 0x8004 ∧
    gives (step (with_ (faulted_ State.reset) [.exportState []])) (fun _ => true) = true ∧
    gives (step (with_ (faulted_ State.reset) [.powerOn])) (fun _ => true) = true := by decide

/-- One word for each of the six checks. -/
theorem witness_CommandChecksInOrder :
    (with_ (faulted_ State.reset) [.command 0x2007]).faulted = true ∧ (with_ State.reset [.command 0xA000]).faulted = false ∧
    10 ≤ (0xA000#16).toNat / 4096 ∧
    ¬ ((0x9400#16).toNat / 4096 = 0 ∨ 10 ≤ (0x9400#16).toNat / 4096) ∧ decode 0x9400 = .error .reservedBits ∧
    decode 0x2007 = .ok (.toggle 7) ∧ (Instr.toggle 7).wellFormed = false ∧
    decode 0x2006 = .ok (.toggle 6) ∧ (Instr.toggle 6).wellFormed = true ∧ legal (.toggle 6) .counter = false ∧
    legal (.toggle 6) .manual = true := by decide

theorem witness_IllegalForModeIsIgnored :
    (6#3).toNat ≤ 6 ∧ (at_ .counter 0x7E 0).mode ≠ .manual ∧ (at_ .counter 0x7E 0).mode = .counter ∧
    (at_ .manual 0 0).mode = .manual ∧ (at_ .animation 0 0).mode ≠ .counter ∧ (9#4).toNat ≤ 9 := by decide

theorem witness_SelmodeSelectsTheMode :
    (onRc (at_ .animation 0x04 4)).faulted = false ∧
    (onRc (at_ .animation 0x04 4)).policy = .onRegisterChange ∧ (0x7E#7 ≠ 0x04) := by decide

theorem witness_ResetRestoresTheModesDefault :
    (at_ .counter 0x5F 6).faulted = false ∧ (onRc (at_ .counter 0x7E 0)).faulted = false ∧
    (onRc (at_ .counter 0x7E 0)).policy ≠ .perMutation := by decide

theorem witness_ToggleFlipsOneSegment :
    (at_ .manual 0x7F 127).faulted = false ∧ (at_ .manual 0x7F 127).mode = .manual ∧ (0#3).toNat ≤ 6 ∧ (6#3).toNat ≤ 6 := by
  decide

theorem witness_LoadpatLoadsThePattern :
    (onRc (at_ .manual 0x50 80)).faulted = false ∧ (onRc (at_ .manual 0x50 80)).mode ≠ .counter ∧
    (at_ .animation 0x05 5).faulted = false ∧ (at_ .animation 0x05 5).mode ≠ .counter := by decide

theorem witness_StepAdvancesAnimation :
    (at_ .animation 0x7F 127).faulted = false ∧ (at_ .animation 0x7F 127).mode = .animation := by decide

theorem witness_StepAdvancesCounter :
    (at_ .counter 0x7B 9).faulted = false ∧ (at_ .counter 0x7B 9).mode = .counter := by decide

theorem witness_NavMovesTheDigit :
    (at_ .counter 0x7E 0).faulted = false ∧ (at_ .counter 0x7E 0).mode = .counter := by decide

theorem witness_SeldigSelectsTheDigit :
    (at_ .counter 0x7B 9).faulted = false ∧ (at_ .counter 0x7B 9).mode = .counter ∧ (9#4).toNat ≤ 9 := by decide

theorem witness_SetrunWritesRunning :
    (at_ .animation 0 0).faulted = false ∧ (at_ .animation 0 0).mode ≠ .manual ∧ (at_ .counter 0x7E 0).mode ≠ .manual := by
  decide

theorem witness_SetivlWritesInterval :
    (at_ .manual 0 0).faulted = false ∧ 50 ≤ (50#10).toNat ∧ (50#10).toNat ≤ 1000 ∧ 50 ≤ (1000#10).toNat ∧
    (1000#10).toNat ≤ 1000 := by decide

theorem witness_ToggleTwiceRestores :
    (at_ .manual 0x41 65).faulted = false ∧ (at_ .manual 0x41 65).mode = .manual ∧ (at_ .manual 0x41 65).ModeInv ∧
    (6#3).toNat ≤ 6 := by decide

theorem witness_NavPlusIsStepInCounter : (at_ .counter 0x7B 9).mode = .counter := by decide

theorem witness_StepRunsTheDecodedCommand :
    (with_ (at_ .counter 0x7E 0) [.command 0x5001]).pending = [.command 0x5001] ∧ decode 0x5001 = .ok (.nav .minus) := by decide

theorem witness_TickStepsOnlyWhenEnabled :
    (with_ (run_ (at_ .counter 0x7B 9)) [.tick]).timing = .untimed ∧
    (with_ (run_ (at_ .counter 0x7B 9)) [.tick]).tickEnabled = true ∧
    (with_ (run_ (at_ .counter 0x7B 9)) [.tick]).pending = [.tick] ∧
    (with_ (at_ .counter 0x7B 9) [.tick]).tickEnabled = false := by decide

theorem witness_StopBeforeAnyFurtherStep :
    (run_ (at_ .counter 0x7E 0)).faulted = false ∧ (Instr.setrun false).wellFormed = true ∧
    (run_ (at_ .counter 0x7E 0)).mode ≠ .manual ∧
    gives (exec (.setrun false) (run_ (at_ .counter 0x7E 0))) (fun _ => true) = true ∧
    gives (exec .reset (run_ (at_ .counter 0x7E 0))) (fun _ => true) = true ∧
    gives (exec (.selmode 2) (run_ (at_ .counter 0x7E 0))) (fun _ => true) = true ∧
    (with_ State.reset [.tick, .command 0x4000]).running = false ∧
    Event.command 0x8001 ∉ (with_ State.reset [.tick, .command 0x4000]).pending ∧
    gives (Host.Core.run Sys2Proof.core 2 (with_ State.reset [.tick, .command 0x4000])) (fun _ => true) = true ∧
    gives (step (with_ State.reset [.command 0x8001])) (fun t => t.running) = true ∧ State.reset.pending = [] := by decide

theorem witness_ManualHasNoTimedEvolution :
    (at_ .manual 0x40 64).mode = .manual ∧ (at_ .manual 0x40 64).ControlInv ∧
    gives (step (at_ .manual 0x40 64)) (fun _ => true) = true ∧ (at_ .manual 0x40 64).pending = [] ∧
    (with_ (at_ .manual 0x40 64) [.command 0x2000]).pending = [.command 0x2000] ∧
    gives (step (with_ (at_ .manual 0x40 64) [.command 0x2000])) (fun t => t.pattern != 0x40) = true := by decide

theorem witness_AnimationTicksCycleMod128 :
    (run_ (at_ .animation 0x05 5)).timing = .untimed ∧ (run_ (at_ .animation 0x05 5)).pending = [] ∧
    (run_ (at_ .animation 0x05 5)).tickEnabled = true ∧ (run_ (at_ .animation 0x05 5)).mode = .animation ∧
    (run_ (at_ .animation 0x05 5)).ModeInv := by decide

theorem witness_CounterTicksCycleMod10 :
    (run_ (at_ .counter 0x79 3)).timing = .untimed ∧ (run_ (at_ .counter 0x79 3)).pending = [] ∧
    (run_ (at_ .counter 0x79 3)).tickEnabled = true ∧ (run_ (at_ .counter 0x79 3)).mode = .counter ∧
    (run_ (at_ .counter 0x79 3)).ModeInv := by decide

theorem witness_IdleBlockKeepsItsState : State.reset.pending = [] ∧ State.reset.running = false := by decide

/-- A timed state just below and just at the interval. -/
def timed_ (elapsed : Nat) (es : List Event) : State :=
  { run_ (at_ .animation 0 0) with timing := .timed, elapsed := elapsed, pending := es }

theorem witness_TimedTickNeedsTheInterval :
    (timed_ 0 []).timing = .timed ∧ (timed_ 0 [.timebase 250]).pending = [.timebase 250] ∧
    (timed_ 249 [.tick]).pending = [.tick] ∧ (timed_ 249 [.tick]).elapsed < (timed_ 249 [.tick]).interval.toNat ∧
    (timed_ 250 [.tick]).pending = [.tick] ∧ (timed_ 250 [.tick]).tickEnabled = true ∧
    (timed_ 250 [.tick]).interval.toNat ≤ (timed_ 250 [.tick]).elapsed := by decide

theorem witness_OnlySelmodeChangesMode :
    State.reset.faulted = false ∧
    gives (step (with_ State.reset [.command 0x1001])) (fun t => t.mode != State.reset.mode) = true := by decide

/-- A changed RUNNING, INTERVAL, register, and STATUS, none by power-on reset. -/
theorem witness_RegistersHaveOnlyTheirWriters :
    (∀ rest, (with_ State.reset [.command 0x8001]).pending ≠ .powerOn :: rest) ∧
    gives (step (with_ State.reset [.command 0x8001])) (fun t => t.running != State.reset.running) = true ∧
    gives (step (with_ State.reset [.command 0x9032])) (fun t => t.interval != State.reset.interval) = true ∧
    gives (step (run_ State.reset)) (fun t => t.value != State.reset.value) = true ∧
    gives (step (with_ State.reset [.command 0x0000])) (fun t => t.status != State.reset.status) = true :=
  ⟨(by intro _ h; cases h), by decide, by decide, by decide, by decide⟩

theorem witness_OnlyPowerOnEmptiesHistory :
    gives (step (with_ { State.reset with hist := [10] } [.powerOn])) (fun t => t.hist == []) = true ∧
    gives (step (with_ { State.reset with hist := [10] } [.command 0x6000])) (fun t => t.hist == [0, 10]) = true := by decide

theorem witness_OnlyReadsCanBeRefused : ∀ a rest, (with_ State.reset [.command 0xFFFF]).pending ≠ .read a :: rest :=
  fun _ _ h => nomatch h

theorem witness_SampleIsExactTenths :
    9 ≤ 9 ∧ (sample 9 .counter).toNat = 1143 ∧ 127 ≤ 127 ∧ (sample 127 .manual).toNat = 1270 ∧
    (at_ .counter 0x7B 9).ModeInv ∧ (at_ .manual 0x7F 127).ModeInv := by decide

theorem witness_HistoryKeepsTheNewestForty :
    (run_ State.reset).hlen ≤ 40 ∧ gives (step (run_ State.reset)) (fun _ => true) = true ∧ State.reset.hist = [] ∧
    (List.replicate 41 (1, Mode.animation)).length = 41 := by decide

theorem witness_PoliciesAgreeOnSteps :
    gives (exec .step { State.reset with policy := .perMutation }) (fun _ => true) = true ∧
    gives (exec .step { State.reset with policy := .onRegisterChange }) (fun _ => true) = true ∧
    gives (exec (.toggle 0) { at_ .manual 0 0 with policy := .onRegisterChange }) (fun _ => true) = true ∧
    gives (exec (.nav .minus) { at_ .counter 0x7E 0 with policy := .onRegisterChange }) (fun _ => true) = true ∧
    (run_ State.reset).pending = [] ∧
    gives (step { run_ State.reset with policy := .perMutation }) (fun _ => true) = true ∧
    gives (step { run_ State.reset with policy := .onRegisterChange }) (fun _ => true) = true := by decide

theorem witness_ReadMapAnswers :
    39 < 40 ∧ { State.reset with hist := List.replicate 40 10 }.hist[39]? = some 10 := by decide

theorem witness_ReadsHaveNoSideEffect :
    (with_ (faulted_ State.reset) [.read 0x49]).pending = [.read 0x49] ∧
    readMap 0x49 (with_ (faulted_ State.reset) [.read 0x49]) = .ok 0x7B := by decide

/-- The edges of each forbidden range, and the last live history entry, which is not refused. -/
theorem witness_ForbiddenReadsAreRefused :
    (with_ State.reset [.read 0x0A]).pending = [.read 0x0A] ∧ (readMap 0x0A State.reset).isOk = false ∧
    (readMap 0x0F State.reset).isOk = false ∧ (readMap 0x38 State.reset).isOk = false ∧ (readMap 0x3F State.reset).isOk = false ∧
    (readMap 0x4A State.reset).isOk = false ∧ (readMap 0xFF State.reset).isOk = false ∧
    (readMap 0x37 { State.reset with hist := List.replicate 39 10 }).isOk = false ∧
    (readMap 0x37 { State.reset with hist := List.replicate 40 10 }).isOk = true := by decide

theorem witness_ReverseLookupInvertsTheTable : reverseLookup 0x7E = some 0 ∧ reverseLookup 0x7B = some 9 := by decide

theorem witness_BinaryReadingsRoundTrip :
    127 ≤ 127 ∧ toValue (toPattern 127) = 127 ∧ toValue (toPattern 0) = 0 ∧ (at_ .animation 0x7F 127).ModeInv ∧
    (at_ .animation 0x7F 127).mode ≠ .counter := by decide

theorem witness_PseudoInstructionsExpand : '"' ∉ "10xx1 ; all".toList := by decide

theorem witness_ValbcdPacksTheDecimalDigits :
    (at_ .counter 0x7B 9).ModeInv ∧ (at_ .counter 0x7B 9).mode = .counter ∧
    readMap 0x09 (at_ .animation 0x7F 127) = .ok 0x0127 := by decide

theorem witness_DigitofShowsReverseLookup :
    reverseLookup (at_ .manual 0x7F 127).pattern = some 8 ∧ reverseLookup State.reset.pattern = none ∧
    (at_ .counter 0x7B 9).ModeInv ∧
    (at_ .counter 0x7B 9).mode = .counter := by decide

theorem witness_ExportTakesOneConsistentState :
    (with_ (at_ .manual 0x40 64) [.exportState "2026".toList]).pending = [.exportState "2026".toList] := by decide

end Sys2Proof.Tests
end

section
/-! PROOFS. The shape every invariant's step proof takes: what each part of a step has to keep, and that it is enough. -/

namespace Sys2Proof.Machine

/-- A decoded command keeps a property that fault entry keeps and that its effect keeps where it is reached
(60_exceptions.md R194). -/
theorem runCommand_keeps {α : Type} {P : State → Prop} {i : Instr} {operand : Except Cause α}
    {effect : α → State → State} {s : State} (hs : P s) (hfault : ∀ c, P (raiseFault c (encode i) s))
    (heffect : ∀ a, operand = .ok a → legal i s.mode = true → P (effect a s)) :
    P (runCommand i operand effect s) := by
  rcases runCommand_cases i operand effect s with h | ⟨c, -, -, h⟩ | ⟨a, ha, -, hl, h⟩ <;> rw [h]
  · exact hs
  · exact hfault c
  · exact heffect a ha hl

/-- Every part a step is made of keeps P. -/
structure StepClosed (P : State → Prop) : Prop where
  setPending : ∀ s es, P s → P (s.setPending es)
  emit : ∀ s o, P s → P (s.emit o)
  setElapsed : ∀ s n, P s → P (s.setElapsed n)
  raiseFault : ∀ s c w, P s → P (raiseFault c w s)
  powerOn : ∀ policy timing, P (State.powerOn policy timing)
  stepRegister : ∀ s, P s → P (stepRegister s)
  exec : ∀ i s t, P s → exec i s = .next t → P t

namespace StepClosed

variable {P : State → Prop} (hP : StepClosed P) {s t : State}
include hP

theorem schedulerTurn (hs : P s) : P (schedulerTurn s) := by
  cases hdue : s.tickDue with
  | false => rwa [schedulerTurn_of_not_due hdue]
  | true =>
    have hstep := hP.stepRegister s hs
    rw [schedulerTurn_of_due hdue]
    rcases restartElapsed_cases (Machine.stepRegister s) with ⟨-, h⟩ | ⟨-, h⟩ <;> rw [h]
    · exact hstep
    · exact hP.setElapsed _ 0 hstep

theorem timebaseEvent (ms : Nat) (hs : P s) : P (timebaseEvent ms s) := by
  unfold Machine.timebaseEvent
  split
  · exact hs
  · split
    · exact hP.setElapsed s _ hs
    · exact hs

theorem submit {w : CmdWord} (hs : P s) (h : submit w s = .next t) : P t := by
  rcases submit_cases w s with ⟨-, hw⟩ | ⟨c, -, -, hw⟩ | ⟨i, -, -, hw⟩ <;> rw [hw] at h
  · cases h
    exact hs
  · cases h
    exact hP.raiseFault s c w hs
  · exact hP.exec i s t hs h

theorem hostRead {addr : ReadAddr} (hs : P s) (h : hostRead addr s = .next t) : P t := by
  unfold Machine.hostRead at h
  split at h
  · cases h
    exact hP.emit s _ hs
  · cases h

theorem deliver {e : Event} (hs : P s) (h : deliver e s = .next t) : P t := by
  cases e with
  | command w => exact hP.submit hs h
  | read addr => exact hP.hostRead hs h
  | exportState ts => cases h; exact hP.emit s _ hs
  | tick => cases h; exact hP.schedulerTurn hs
  | timebase ms => cases h; exact hP.timebaseEvent ms hs
  | powerOn => cases h; exact hP.setPending _ _ (hP.powerOn s.policy s.timing)

/-- A property every part of a step keeps is kept by the step. -/
theorem next (hs : P s) (h : step s = .next t) : P t := by
  cases hp : s.pending with
  | nil =>
    rw [step_of_idle hp] at h
    cases h
    exact hP.schedulerTurn hs
  | cons e rest =>
    rw [step_of_pending hp] at h
    exact hP.deliver (hP.setPending s rest hs) h

end StepClosed

end Sys2Proof.Machine
end

section
/-! PROOFS. The mode invariant (10_state.md R24) as a relation of MODE and the register pair, which writes of a register
pair establish one by one. -/

namespace Sys2Proof.Machine

/-- The register pair agrees with the mode: in Counter it is a digit's pattern and the digit, else one number. -/
def RegisterFits : Mode → Pattern → Value → Prop
  | .animation, p, v => p = v
  | .manual, p, v => p = v
  | .counter, p, v => ∃ d : Fin 10, p = lut d ∧ v = BitVec.ofNat 7 d.val

/-- `toValue` loses nothing of the pattern when VALUE takes it (40_digit_table.md R83, R84). -/
@[simp] theorem ofNat_toValue (p : Pattern) : BitVec.ofNat 7 (toValue p) = p := by
  simp [toValue_eq_toNat]

/-- The Counter's part of the mode invariant: VALUE is a digit and PATTERN its LUT entry. -/
theorem lookup_value_iff (p : Pattern) (v : Value) :
    v.toNat ≤ 9 ∧ lookup v.toNat = some p ↔ ∃ d : Fin 10, p = lut d ∧ v = BitVec.ofNat 7 d.val := by
  constructor
  · rintro ⟨hle, hp⟩
    have hlut := lookup_eq_lut ⟨v.toNat, by omega⟩
    exact ⟨⟨v.toNat, by omega⟩, Option.some.inj (hp.symm.trans hlut), by simp⟩
  · rintro ⟨d, rfl, rfl⟩
    have hd : d.val % 2 ^ 7 = d.val := Nat.mod_eq_of_lt (by omega)
    rw [BitVec.toNat_ofNat, hd]
    exact ⟨by omega, lookup_eq_lut d⟩

/-- The mode invariant speaks of MODE, PATTERN and VALUE only (10_state.md R24). -/
theorem modeInv_iff (s : State) : s.ModeInv ↔ RegisterFits s.mode s.pattern s.value := by
  have hle : s.value.toNat ≤ 127 := by omega
  cases hm : s.mode with
  | animation => simp [State.ModeInv, RegisterFits, toPattern, hm, hle]
  | manual =>
    simp [State.ModeInv, RegisterFits, toValue_eq_toNat, hm, hle, eq_comm, BitVec.toNat_inj]
  | counter => simpa [State.ModeInv, RegisterFits, hm] using lookup_value_iff s.pattern s.value

/-- `defaultRegister(m)` fits m (41_mode_control.md R101). -/
theorem registerFits_default (m : Mode) : RegisterFits m (defaultPattern m) 0 := by
  cases m with
  | animation => rfl
  | manual => rfl
  | counter => exact ⟨0, rfl, rfl⟩

/-- Outside Counter a register pair fits when it is one number. -/
theorem registerFits_iff_eq {m : Mode} (hm : m ≠ .counter) (p : Pattern) (v : Value) : RegisterFits m p v ↔ p = v := by
  cases m with
  | animation => rfl
  | manual => rfl
  | counter => exact absurd rfl hm

/-- Writing a pattern and its `toValue` outside Counter establishes the mode invariant. -/
theorem mutate_toValue_modeInv {s : State} (hm : s.mode ≠ .counter) (p : Pattern) :
    (mutate p (toValue p) s).ModeInv := by
  simp [modeInv_iff, registerFits_iff_eq hm]

/-- Writing a digit and its pattern in Counter establishes the mode invariant. -/
theorem mutate_lut_modeInv {s : State} (hm : s.mode = .counter) (d : Fin 10) :
    (mutate (lut d) d.val s).ModeInv := by
  simpa [modeInv_iff, hm] using ⟨d, rfl, rfl⟩

theorem selectMode_modeInv (m : Mode) (s : State) : (selectMode m s).ModeInv := by
  simpa [modeInv_iff, selectMode] using registerFits_default m

theorem resetRegister_modeInv (s : State) : (resetRegister s).ModeInv := by
  simpa [modeInv_iff, resetRegister] using registerFits_default s.mode

/-- STEP and TICK move the register to a pair that fits (42_register_ops.md R125). -/
theorem stepFn_modeInv {s : State} (hs : s.ModeInv) : (stepFn s).ModeInv := by
  unfold stepFn
  split
  next hm => simp [modeInv_iff, hm, RegisterFits, toPattern]
  next hm => simpa [modeInv_iff, hm] using ⟨digitMod10 (s.value.toNat + 1), rfl, rfl⟩
  next => exact hs

theorem stepRegister_modeInv {s : State} (hs : s.ModeInv) : (stepRegister s).ModeInv := by
  simpa only [stepRegister, modeInv_iff, afterWrite_mode, afterWrite_pattern, afterWrite_value] using stepFn_modeInv hs

theorem setRunFlag_modeInv {s : State} (r : Bool) (hs : s.ModeInv) : (setRunFlag r s).ModeInv := by
  unfold setRunFlag
  split
  · rcases restartElapsed_cases (s.setRunning r) with ⟨-, h⟩ | ⟨-, h⟩ <;> rw [h] <;> exact hs
  · exact hs

/-- Every command keeps the mode invariant: the modes it is legal in are those its register write fits
(41_mode_control.md R104). -/
theorem exec_keeps_modeInv {i : Instr} {s t : State} (hs : s.ModeInv) (h : exec i s = .next t) : t.ModeInv := by
  have hfault : ∀ c, (raiseFault c (encode i) s).ModeInv := fun _ => hs
  cases i <;> cases h <;> refine runCommand_keeps hs hfault fun a _ hlegal => ?_
  case selmode => exact selectMode_modeInv a s
  case toggle =>
    have hm : s.mode = .manual := by simpa [legal] using hlegal
    exact mutate_toValue_modeInv (by simp [hm]) _
  case loadpat =>
    have hm : s.mode ≠ .counter := by rintro hc; simp [legal, hc] at hlegal
    exact mutate_toValue_modeInv hm a
  case step => exact stepRegister_modeInv hs
  case nav => exact mutate_lut_modeInv (by simpa [legal] using hlegal) _
  case reset => exact resetRegister_modeInv s
  case seldig => exact mutate_lut_modeInv (by simpa [legal] using hlegal) a
  case setrun => exact setRunFlag_modeInv a hs
  case setivl => exact hs

theorem powerOn_modeInv (policy : RecordPolicy) (timing : Timing) : (State.powerOn policy timing).ModeInv :=
  (modeInv_iff _).2 (registerFits_default .animation)

theorem modeInv_stepClosed : StepClosed State.ModeInv where
  setPending _ _ hs := hs
  emit _ _ hs := hs
  setElapsed _ _ hs := hs
  raiseFault _ _ _ hs := hs
  powerOn := powerOn_modeInv
  stepRegister _ := stepRegister_modeInv
  exec _ _ _ := exec_keeps_modeInv

/-- Under the mode invariant PATTERN and VALUE are one number outside Counter (10_state.md R24). -/
theorem pattern_eq_value_of_modeInv {s : State} (hs : s.ModeInv) (hm : s.mode ≠ .counter) : s.pattern = s.value :=
  (registerFits_iff_eq hm s.pattern s.value).1 ((modeInv_iff s).1 hs)

/-- Settles O4: the mode invariant is closed under every part of a step. -/
theorem stepKeepsModeInvariant : Obligations.StepKeepsModeInvariant :=
  ⟨powerOn_modeInv, fun _ _ => modeInv_stepClosed.next, fun _ => pattern_eq_value_of_modeInv⟩

/-- Settles O1: the power-on state and the LUT are constants, and `registerFits_default` gives the mode invariant. -/
theorem powerOnResetValues : Obligations.PowerOnResetValues := by
  refine ⟨fun policy timing => ?_, by decide, rfl⟩
  exact ⟨rfl, rfl, rfl, rfl, rfl, rfl, rfl, rfl, rfl, rfl, rfl, powerOn_modeInv policy timing⟩

end Sys2Proof.Machine
end

section
/-! PROOFS. The read port and the export (20_memory.md R41 to R44, R54): what the read map answers, by where the address
lies; what a read and an export leave unchanged; and the characters of a pattern's string. -/

namespace Sys2Proof.Machine

/-! ### The read map, by where the address lies -/

/-- The addresses that name no register, view, history slot or digit (20_memory.md R41). -/
abbrev Unlisted (a : ReadAddr) : Prop :=
  (0x0A ≤ a.toNat ∧ a.toNat ≤ 0x0F) ∨ (0x38 ≤ a.toNat ∧ a.toNat ≤ 0x3F) ∨ 0x4A ≤ a.toNat

section ReadMap

variable {s : State} {a : ReadAddr}

/-- The registers and views always answer (20_memory.md R41). -/
theorem readMap_register (ha : a.toNat ≤ 0x09) : ∃ w, readMap a s = .ok w := by
  unfold readMap
  interval_cases a.toNat <;> exact ⟨_, rfl⟩

/-- An address of the history window answers as the entry there does: the sample, or nothing (20_memory.md R41, R44). -/
theorem readMap_history {k : Nat} (hk : k < 40) (ha : a.toNat = 0x10 + k) :
    readMap a s = (s.hist[k]?).elim (.error (.emptyHistoryRead k)) fun h => .ok (h.setWidth 16) := by
  have hwindow : 0x10 ≤ 0x10 + k ∧ 0x10 + k < 0x38 := by omega
  have hview : ∀ n ≤ 0x09, 0x10 + k ≠ n := by omega
  simp only [readMap, ha, hview, Nat.reduceLeDiff, if_false, if_pos hwindow, Nat.add_sub_cancel_left]
  cases s.hist[k]? <;> rfl

/-- The Digit Table window answers the table's entries (20_memory.md R41). -/
theorem readMap_digit (d : Fin 10) (ha : a.toNat = 0x40 + d.val) : readMap a s = .ok ((lut d).setWidth 16) := by
  have hwindow : ¬(0x10 ≤ 0x40 + d.val ∧ 0x40 + d.val < 0x38) := by omega
  have hview : ∀ n ≤ 0x09, 0x40 + d.val ≠ n := by omega
  simp [readMap, ha, hview, hwindow, lookup_eq_lut]

/-- The addresses the read map does not list are refused (20_memory.md R44). -/
theorem readMap_unlisted (ha : Unlisted a) : readMap a s = .error (.unmappedRead a) := by
  have hwindow : ¬(0x10 ≤ a.toNat ∧ a.toNat < 0x38) := by omega
  have hview : ∀ n ≤ 0x09, a.toNat ≠ n := by omega
  have hdigit : 0x40 ≤ a.toNat → lookup (a.toNat - 0x40) = none := fun _ =>
    List.getElem?_eq_none (show 10 ≤ a.toNat - 0x40 by omega)
  simp only [readMap, hview, hwindow, Nat.reduceLeDiff, if_false]
  split
  next h => rw [hdigit h]
  next => rfl

/-- Everything a read of the map can do, and where. -/
theorem readMap_cases (a : ReadAddr) (s : State) :
    (a.toNat ≤ 0x09 ∧ ∃ w, readMap a s = .ok w) ∨
    (∃ k h, k < 40 ∧ a.toNat = 0x10 + k ∧ s.hist[k]? = some h ∧ readMap a s = .ok (h.setWidth 16)) ∨
    (∃ k, k < 40 ∧ a.toNat = 0x10 + k ∧ s.hlen ≤ k ∧ readMap a s = .error (.emptyHistoryRead k)) ∨
    (∃ d : Fin 10, a.toNat = 0x40 + d.val ∧ readMap a s = .ok ((lut d).setWidth 16)) ∨
    (Unlisted a ∧ readMap a s = .error (.unmappedRead a)) := by
  have hregion : a.toNat ≤ 0x09 ∨ (0x10 ≤ a.toNat ∧ a.toNat ≤ 0x37) ∨ (0x40 ≤ a.toNat ∧ a.toNat ≤ 0x49) ∨
      Unlisted a := by omega
  rcases hregion with ha | ⟨hlo, hhi⟩ | ⟨hlo, hhi⟩ | ha
  · exact .inl ⟨ha, readMap_register ha⟩
  · obtain ⟨k, hk⟩ := Nat.exists_eq_add_of_le hlo
    have hk40 : k < 40 := by omega
    have hread := readMap_history (s := s) hk40 hk
    cases he : s.hist[k]? with
    | some h => exact .inr (.inl ⟨k, h, hk40, hk, he, by rw [hread, he]; rfl⟩)
    | none => exact .inr (.inr (.inl ⟨k, hk40, hk, List.getElem?_eq_none_iff.1 he, by rw [hread, he]; rfl⟩))
  · obtain ⟨d, hd⟩ := Nat.exists_eq_add_of_le hlo
    exact .inr (.inr (.inr (.inl ⟨⟨d, by omega⟩, hd, readMap_digit ⟨d, by omega⟩ hd⟩)))
  · exact .inr (.inr (.inr (.inr ⟨ha, readMap_unlisted ha⟩)))

/-- The read map refuses exactly the addresses the host must not read (20_memory.md R44). -/
theorem readMap_error_iff :
    (∃ r, readMap a s = .error r) ↔
      ((0x0A ≤ a.toNat ∧ a.toNat ≤ 0x0F) ∨ (0x38 ≤ a.toNat ∧ a.toNat ≤ 0x3F) ∨ 0x4A ≤ a.toNat ∨
        (0x10 ≤ a.toNat ∧ a.toNat ≤ 0x37 ∧ s.hlen ≤ a.toNat - 0x10)) := by
  rcases readMap_cases a s with
    ⟨ha, w, h⟩ | ⟨k, x, hk, ha, he, h⟩ | ⟨k, hk, ha, hlen, h⟩ | ⟨d, ha, h⟩ | ⟨ha, h⟩
  · exact iff_of_false (by simp [h]) (by omega)
  · have hlive : k < s.hlen := (List.getElem?_eq_some_iff.1 he).1
    exact iff_of_false (by simp [h]) (by omega)
  · exact iff_of_true ⟨_, h⟩ (by omega)
  · exact iff_of_false (by simp [h]) (by omega)
  · exact iff_of_true ⟨_, h⟩ (by omega)

end ReadMap

/-! ### What a read answers and leaves unchanged -/

/-- What is pending is not in the read map. -/
@[simp] theorem readMap_setPending (a : ReadAddr) (s : State) (es : List Event) :
    readMap a (s.setPending es) = readMap a s := rfl

/-- What the host has been given is not in the read map. -/
@[simp] theorem readMap_emit (a : ReadAddr) (s : State) (o : Output) : readMap a (s.emit o) = readMap a s := rfl

theorem hostRead_of_ok {a : ReadAddr} {s : State} {w : ReadWord} (h : readMap a s = .ok w) :
    hostRead a s = .next (s.emit (.readData a w)) := by
  simp [hostRead, h]

/-- A host read is refused with the read map's own reason. -/
theorem hostRead_eq_refused_iff (a : ReadAddr) (s : State) (r : Refusal) :
    hostRead a s = .refused r ↔ readMap a s = .error r := by
  cases h : readMap a s <;> simp [hostRead, h]

theorem step_of_read {s : State} {a : ReadAddr} {rest : List Event} (h : s.pending = .read a :: rest) :
    step s = hostRead a (s.setPending rest) := step_of_pending h

/-! ### The string of a pattern -/

theorem patternString_length (p : Pattern) : (patternString p).length = 7 := by
  simp [patternString]

/-- The characters of the string are the segments a to g (00_scope.md R11). -/
theorem patternString_getElem? (p : Pattern) {i : Nat} (hi : i < 7) :
    (patternString p)[i]? = some (if p.getLsbD (6 - i) then '1' else '0') := by
  simp [patternString, segmentBit, hi]

/-! ### The obligations -/

/-- Settles O47: a read emits its word, and the read map sees neither the pending events nor the outputs. -/
theorem readsHaveNoSideEffect : Obligations.ReadsHaveNoSideEffect := by
  intro s a word rest hp hread
  refine ⟨(s.setPending rest).emit (.readData a word), ?_, rfl, fun b => by simp⟩
  rw [step_of_read hp]
  exact hostRead_of_ok (by simpa using hread)

/-- Settles O48: a read is refused exactly where the read map is, by where the address lies. -/
theorem forbiddenReadsAreRefused : Obligations.ForbiddenReadsAreRefused := by
  intro s a rest hp
  simp only [step_of_read hp, hostRead_eq_refused_iff, readMap_setPending]
  exact readMap_error_iff

/-- Settles O55: the record is the snapshot of the state the export meets. -/
theorem exportTakesOneConsistentState : Obligations.ExportTakesOneConsistentState := by
  intro s ts rest hp
  refine ⟨snapshot ts s, ?_, rfl, rfl, rfl, patternString_length s.pattern, fun i => patternString_getElem? s.pattern⟩
  rw [step_of_pending hp]
  rfl

/-- Settles O46: a register's word is read off the map; the two windows are `readMap_history` and `readMap_digit`. -/
theorem readMapAnswers : Obligations.ReadMapAnswers := by
  intro s
  have hmode : readMap 0x00 s = .ok (match s.mode with | .animation => 0 | .manual => 1 | .counter => 2) := by
    change Except.ok (s.mode.code.setWidth 16) = _
    cases s.mode <;> rfl
  have hrunning : readMap 0x03 s = .ok (if s.running then 1 else 0) := by
    change Except.ok ((BitVec.ofBool s.running).setWidth 16) = _
    cases s.running <;> rfl
  refine ⟨hmode, rfl, rfl, hrunning, rfl, rfl, rfl, rfl, rfl, rfl, fun k h hk he => ?_, fun d => ?_⟩
  · have ha : (BitVec.ofNat 8 (0x10 + k)).toNat = 0x10 + k := Nat.mod_eq_of_lt (by omega)
    rw [readMap_history hk ha, he]
    rfl
  · exact readMap_digit d (Nat.mod_eq_of_lt (by omega))

end Sys2Proof.Machine
end

section
/-! PROOFS. The decoder by the rows of the opcode map (30_encoding.md R63 to R65), and the two kinds of fault a word can
take: by its opcode or reserved bits, and by its operand (R66). -/

namespace Sys2Proof.Machine

/-! ### The opcode of a word -/

/-- The opcode is the word's highest hexadecimal digit (30_encoding.md R60). -/
theorem opcodeOf_toNat (w : CmdWord) : (opcodeOf w).toNat = w.toNat / 4096 := by
  rw [opcodeOf, BitVec.extractLsb'_toNat, Nat.shiftRight_eq_div_pow]
  omega

/-- A mask that covers bits 15:12 leaves the opcode as it is. -/
theorem opcodeOf_and {m : CmdWord} (hm : opcodeOf m = 0xF) (w : CmdWord) : opcodeOf (w &&& m) = opcodeOf w := by
  have hand : opcodeOf (w &&& m) = opcodeOf w &&& opcodeOf m := BitVec.extractLsb'_and
  rw [hand, hm]
  exact BitVec.and_allOnes

/-! ### The rows of the opcode map -/

section Row

variable {r : Row} (hr : r ∈ opcodeMap)
include hr

/-- Every row is the one its opcode finds. -/
theorem rowOf_op : rowOf r.op = some r := by
  revert r
  simp only [opcodeMap, List.forall_mem_cons]
  exact ⟨rfl, rfl, rfl, rfl, rfl, rfl, rfl, rfl, rfl, nofun⟩

/-- A row's mask covers the opcode, and its match holds it. -/
theorem opcodeOf_mask_fixed : opcodeOf r.mask = 0xF ∧ opcodeOf r.fixed = r.op := by
  revert r
  decide

/-- The command a row builds belongs to that row, whatever the word. -/
theorem expected_build (w : CmdWord) : Laws.RowMatch.expected (r.build w) = (r.op, r.fixed, r.mask) := by
  revert r
  simp only [opcodeMap, List.forall_mem_cons]
  exact ⟨rfl, rfl, rfl, rfl, rfl, rfl, rfl, rfl, rfl, nofun⟩

/-- A word that masks to a row's match has that row's opcode. -/
theorem opcodeOf_of_match {w : CmdWord} (h : w &&& r.mask = r.fixed) : opcodeOf w = r.op := by
  obtain ⟨hmask, hfixed⟩ := opcodeOf_mask_fixed hr
  rw [← opcodeOf_and hmask w, h, hfixed]

/-- The decoder on a word of the row's opcode (30_encoding.md R63, R65). -/
theorem decode_of_opcode {w : CmdWord} (hop : opcodeOf w = r.op) :
    decode w = if w &&& r.mask = r.fixed then .ok (r.build w) else .error .reservedBits := by
  simp only [decode, hop, rowOf_op hr]

end Row

/-- An opcode finds a row of the map with that opcode. -/
theorem mem_of_rowOf {op : BitVec 4} {r : Row} (h : rowOf op = some r) : r ∈ opcodeMap ∧ r.op = op :=
  ⟨List.mem_of_find?_eq_some h, by simpa using List.find?_some h⟩

/-- Exactly the opcodes 0x0 and 0xA to 0xF have no row (30_encoding.md R64). -/
theorem rowOf_eq_none_iff : ∀ op : BitVec 4, rowOf op = none ↔ op.toNat = 0 ∨ 10 ≤ op.toNat := by
  decide

/-! ### What the decoder answers -/

/-- Everything the decoder can do with a word: no row, or a row of its opcode, whose mask decides. -/
theorem decode_cases (w : CmdWord) :
    (rowOf (opcodeOf w) = none ∧ decode w = .error .reservedOpcode) ∨
    (∃ r ∈ opcodeMap, rowOf (opcodeOf w) = some r ∧ w &&& r.mask ≠ r.fixed ∧ decode w = .error .reservedBits) ∨
    (∃ r ∈ opcodeMap, rowOf (opcodeOf w) = some r ∧ w &&& r.mask = r.fixed ∧ decode w = .ok (r.build w)) := by
  cases hrow : rowOf (opcodeOf w) with
  | none => exact .inl ⟨rfl, by simp [decode, hrow]⟩
  | some r =>
    obtain ⟨hr, hop⟩ := mem_of_rowOf hrow
    have hd := decode_of_opcode hr hop.symm
    by_cases hm : w &&& r.mask = r.fixed
    · exact .inr (.inr ⟨r, hr, rfl, hm, by rw [hd, if_pos hm]⟩)
    · exact .inr (.inl ⟨r, hr, rfl, hm, by rw [hd, if_neg hm]⟩)

/-- A word spells a row's command exactly when it masks to the row's match (30_encoding.md R63). Different rows build
different commands, so no other row can give it. -/
theorem decode_eq_build_iff {r : Row} (hr : r ∈ opcodeMap) (w : CmdWord) :
    decode w = .ok (r.build w) ↔ w &&& r.mask = r.fixed := by
  constructor
  · intro h
    rcases decode_cases w with ⟨-, hd⟩ | ⟨r', -, -, -, hd⟩ | ⟨r', hr', -, hm, hd⟩ <;> rw [hd] at h
    · cases h
    · cases h
    · have hrow : (r'.op, r'.fixed, r'.mask) = (r.op, r.fixed, r.mask) := by
        rw [← expected_build hr' w, Except.ok.inj h, expected_build hr w]
      obtain ⟨-, hfixed, hmask⟩ : r'.op = r.op ∧ r'.fixed = r.fixed ∧ r'.mask = r.mask := by simpa using hrow
      rwa [hfixed, hmask] at hm
  · intro h
    rw [decode_of_opcode hr (opcodeOf_of_match hr h), if_pos h]

/-- The decoder finds a reserved opcode exactly where the opcode map has no row (30_encoding.md R64). -/
theorem decode_eq_reservedOpcode_iff (w : CmdWord) :
    decode w = .error .reservedOpcode ↔ w.toNat / 4096 = 0 ∨ 10 ≤ w.toNat / 4096 := by
  rw [← opcodeOf_toNat, ← rowOf_eq_none_iff]
  rcases decode_cases w with ⟨hrow, hd⟩ | ⟨r, -, hrow, -, hd⟩ | ⟨r, -, hrow, -, hd⟩ <;> simp [hrow, hd]

/-! ### The two kinds of fault -/

/-- A word that spells no command faults with the decoder's cause and changes nothing else of the block
(60_exceptions.md R192, R194). -/
theorem step_of_decode_error {s : State} {w : CmdWord} {rest : List Event} {c : Cause} (hs : s.faulted = false)
    (hp : s.pending = .command w :: rest) (hd : decode w = .error c) :
    step s = .next { s with pending := rest, status := faultStatus c, fcmd := w } := by
  rw [step_of_pending hp]
  simp only [deliver, submit, setPending_faulted, hs, hd]
  rfl

/-- A digit above 9 is out of its domain (30_encoding.md R66). -/
theorem digitOperand_of_ten_le {d : BitVec 4} (h : 10 ≤ d.toNat) : digitOperand d = .error .digitOutOfRange :=
  dif_neg (by omega)

/-- An interval below 50 or above 1000 is out of its domain (30_encoding.md R66). -/
theorem intervalOperand_of_outside {n : Interval} (h : n.toNat < 50 ∨ 1000 < n.toNat) :
    intervalOperand n = .error .intervalOutOfRange :=
  if_neg (show ¬(50 ≤ n.toNat ∧ n.toNat ≤ 1000) by omega)

/-- An operand out of its domain writes STATUS with its cause and FCMD with the command's word, whatever the mode
(60_exceptions.md R192, R194). -/
theorem runCommand_of_operand_error {α : Type} {i : Instr} {operand : Except Cause α} {effect : α → State → State}
    {s : State} {c : Cause} (hs : s.faulted = false) (ho : operand = .error c) :
    runCommand i operand effect s = { s with status := faultStatus c, fcmd := encode i } := by
  rw [ho, runCommand_of_error i c effect hs]
  rfl

/-! ### The obligations -/

/-- Settles O10: the nine rows of the opcode map, each by `decode_eq_build_iff`. -/
theorem wordSelectsItsRow : Obligations.WordSelectsItsRow := by
  intro w
  have row (k : Fin 9) := decode_eq_build_iff (opcodeMap.get_mem k) w
  exact ⟨row 0, row 1, row 2, row 3, row 4, row 5, row 6, row 7, row 8⟩

/-- Settles O12: a word without a row is a decoding error, and those words are known by their opcode. -/
theorem reservedOpcodeFaults : Obligations.ReservedOpcodeFaults := by
  refine ⟨fun s w rest hs hp hop => ?_, decode_eq_reservedOpcode_iff, rfl⟩
  exact step_of_decode_error hs hp ((decode_eq_reservedOpcode_iff w).2 hop)

/-- Settles O13: the list is the opcode map's own, and `decode_of_opcode` takes its second branch. -/
theorem reservedBitsFault : Obligations.ReservedBitsFault := by
  intro row hrow s w rest hs hp hop hbits
  obtain ⟨r, hr, rfl⟩ : ∃ r ∈ opcodeMap, (r.op.toNat, r.mask, r.fixed) = row := List.mem_map.1 hrow
  have hopcode : opcodeOf w = r.op := BitVec.eq_of_toNat_eq ((opcodeOf_toNat w).trans hop)
  exact step_of_decode_error hs hp ((decode_of_opcode hr hopcode).trans (if_neg hbits))

/-- Settles O14: the operand's check fails before the mode is looked at, so each is `runCommand_of_operand_error`. -/
theorem reservedOperandsFaultInEveryMode : Obligations.ReservedOperandsFaultInEveryMode := by
  intro s hs
  refine ⟨?selmode, ?toggle, fun d hd => ?seldig, fun n hn => ?setivl⟩
  case selmode => exact congrArg Host.Outcome.next (runCommand_of_operand_error hs rfl)
  case toggle => exact congrArg Host.Outcome.next (runCommand_of_operand_error hs rfl)
  case seldig => exact congrArg Host.Outcome.next (runCommand_of_operand_error hs (digitOperand_of_ten_le hd))
  case setivl => exact congrArg Host.Outcome.next (runCommand_of_operand_error hs (intervalOperand_of_outside hn))

end Sys2Proof.Machine
end

section
/-! PROOFS. The conversion functions of 40_digit_table.md: the reverse lookup (R82), the two binary readings (R85), the
sanitizer and the string it leaves (R86), and the two views the read port shows of them (R87, R88). -/

namespace Sys2Proof.Machine

/-! ### The Counter's register -/

/-- Under the mode invariant the Counter's VALUE is a digit and PATTERN is that digit's entry (10_state.md R24). -/
theorem counter_register {s : State} (hs : s.ModeInv) (hm : s.mode = .counter) :
    ∃ d : Fin 10, s.pattern = lut d ∧ s.value = BitVec.ofNat 7 d.val := by
  simpa [hm, RegisterFits] using (modeInv_iff s).1 hs

/-- A digit held in VALUE, zero-extended to a read word. -/
theorem setWidth_ofNat_digit (d : Fin 10) : (BitVec.ofNat 7 d.val).setWidth 16 = BitVec.ofNat 16 d.val := by
  have hd : d.val % 2 ^ 7 = d.val := Nat.mod_eq_of_lt (by omega)
  rw [← BitVec.ofNat_toNat, BitVec.toNat_ofNat, hd]

/-! ### The reverse lookup and DIGITOF -/

/-- The entries are pairwise distinct (40_digit_table.md R80), so the first entry found is the digit's own. -/
theorem reverseLookup_lut : ∀ d : Fin 10, reverseLookup (lut d) = some d := by decide

/-- A pattern has the digit d exactly when it is d's entry (40_digit_table.md R82). -/
theorem reverseLookup_eq_some_iff (p : Pattern) (d : Fin 10) : reverseLookup p = some d ↔ lut d = p := by
  constructor
  · intro h
    simpa using List.find?_some h
  · rintro rfl
    exact reverseLookup_lut d

theorem digitOf_of_some {p : Pattern} {d : Fin 10} (h : reverseLookup p = some d) :
    digitOf p = BitVec.ofNat 16 d.val := by
  simp [digitOf, h]

theorem digitOf_of_none {p : Pattern} (h : reverseLookup p = none) : digitOf p = 0x8000 := by
  simp [digitOf, h]

theorem readMap_digitOf (s : State) : readMap 0x08 s = .ok (digitOf s.pattern) := rfl

/-! ### VALBCD -/

/-- Three digits of four bits, side by side, are the number in base 16. -/
theorem toNat_append_nibbles (h t u : BitVec 4) :
    ((h ++ t ++ u).setWidth 16).toNat = 256 * h.toNat + 16 * t.toNat + u.toNat := by
  rw [BitVec.toNat_setWidth, BitVec.toNat_append, BitVec.toNat_append,
    ← Nat.shiftLeft_add_eq_or_of_lt u.isLt, ← Nat.shiftLeft_add_eq_or_of_lt t.isLt]
  omega

/-- Each digit fits its four bits, so VALBCD in base 16 spells VALUE in base 10 (40_digit_table.md R87). -/
theorem valBcd_toNat (v : Value) :
    (valBcd v).toNat = 256 * (v.toNat / 100) + 16 * (v.toNat / 10 % 10) + v.toNat % 10 := by
  have hv := v.isLt
  rw [valBcd, toNat_append_nibbles]
  simp only [BitVec.toNat_ofNat]
  omega

/-- A value of one decimal digit is its own VALBCD. -/
theorem valBcd_of_le_nine {v : Value} (h : v.toNat ≤ 9) : valBcd v = v.setWidth 16 := by
  apply BitVec.eq_of_toNat_eq
  rw [valBcd_toNat, BitVec.toNat_setWidth]
  omega

theorem readMap_valBcd (s : State) : readMap 0x09 s = .ok (valBcd s.value) := rfl

/-! ### The sanitizer -/

/-- A segment string (00_scope.md R11): seven characters, each `0` or `1`. -/
def IsSegmentString (t : Text) : Prop := t.length = 7 ∧ ∀ c ∈ t, c = '0' ∨ c = '1'

/-- Truncating and then padding is padding by seven and then truncating. -/
theorem sanitize_eq_take (raw : Text) :
    sanitize raw = ((raw.filter fun c => c == '0' || c == '1') ++ List.replicate 7 '0').take 7 := by
  rw [sanitize, List.take_append, List.length_take, List.take_replicate]
  congr 2
  omega

theorem isSegmentString_sanitize (raw : Text) : IsSegmentString (sanitize raw) := by
  rw [sanitize_eq_take]
  constructor
  · simp
  · intro c hc
    rcases List.mem_append.1 (List.mem_of_mem_take hc) with hkept | hpad
    · simpa using (List.mem_filter.1 hkept).2
    · exact .inl (List.eq_of_mem_replicate hpad)

/-- A segment string passes the sanitizer as it is. -/
theorem sanitize_of_isSegmentString {t : Text} (ht : IsSegmentString t) : sanitize t = t := by
  obtain ⟨hlen, hbits⟩ := ht
  have hkept : (t.filter fun c => c == '0' || c == '1') = t := List.filter_eq_self.2 (by simpa using hbits)
  rw [sanitize_eq_take, hkept, List.take_left' hlen]

/-! ### The number of a binary string -/

/-- One more character on the right is one more binary place. -/
theorem binaryNumber_append_singleton (bits : Text) (c : Char) :
    binaryNumber (bits ++ [c]) = Nat.bit (c == '1') (binaryNumber bits) := by
  by_cases h : c = '1' <;> simp [binaryNumber, Nat.bit_val, h]

/-- Bit j of the number is the character j places from the right. -/
theorem testBit_binaryNumber (bits : Text) :
    ∀ j, (binaryNumber bits).testBit j = (bits.reverse[j]? == some '1') := by
  induction bits using List.reverseRecOn with
  | nil => simp [binaryNumber]
  | append_singleton bits c ih =>
    intro j
    rw [binaryNumber_append_singleton, List.reverse_append, List.reverse_singleton, List.singleton_append]
    cases j with
    | zero => exact Nat.testBit_bit_zero _ _
    | succ j => rw [Nat.testBit_bit_succ, ih j, List.getElem?_cons_succ]

/-- A segment string is the string of the pattern whose bits it spells. -/
theorem patternString_binaryNumber {t : Text} (ht : IsSegmentString t) :
    patternString (BitVec.ofNat 7 (binaryNumber t)) = t := by
  obtain ⟨hlen, hbits⟩ := ht
  refine List.ext_getElem? fun i => ?_
  by_cases hi : i < 7
  · have hchar : t[i]? = some t[i] := List.getElem?_eq_getElem (by omega)
    have hplace : t.reverse[6 - i]? = t[i]? := by
      rw [List.getElem?_reverse (by omega), hlen, show 7 - 1 - (6 - i) = i by omega]
    have hbit : (BitVec.ofNat 7 (binaryNumber t)).getLsbD (6 - i) = (t[i] == '1') := by
      rw [BitVec.getLsbD_ofNat, testBit_binaryNumber, hplace, hchar, decide_eq_true (by omega), Bool.true_and]
      rfl
    rw [patternString_getElem? _ hi, hbit, hchar]
    rcases hbits t[i] (List.getElem_mem _) with h | h <;> simp [h]
  · rw [List.getElem?_eq_none (by rw [patternString_length]; omega), List.getElem?_eq_none (by omega)]

/-! ### The obligations -/

/-- Settles O51: the sanitizer's result is a segment string, which is its own pattern's string and its own sanitizing. -/
theorem sanitizeDropsTruncatesPads : Obligations.SanitizeDropsTruncatesPads := by
  intro raw
  have hseg := isSegmentString_sanitize raw
  have ⟨hlen, hbits⟩ := hseg
  exact ⟨sanitize_eq_take raw, hlen, hbits, patternString_binaryNumber hseg, sanitize_of_isSegmentString hseg⟩

/-- Settles O54: DIGITOF by its two cases, and the Counter's PATTERN is its VALUE's entry. -/
theorem digitofShowsReverseLookup : Obligations.DigitofShowsReverseLookup := by
  refine ⟨fun s d h => ?digit, fun s h => ?notFound, fun s hs hm => ?counter⟩
  case digit => rw [readMap_digitOf, digitOf_of_some h]
  case notFound => rw [readMap_digitOf, digitOf_of_none h]
  case counter =>
    obtain ⟨d, hp, hv⟩ := counter_register hs hm
    rw [readMap_digitOf, hp, hv, digitOf_of_some (reverseLookup_lut d), setWidth_ofNat_digit]

/-- Settles O49: `reverseLookup_lut` and its converse; the ten patterns are counted. -/
theorem reverseLookupInvertsTheTable : Obligations.ReverseLookupInvertsTheTable :=
  ⟨reverseLookup_lut, reverseLookup_eq_some_iff, by decide, fun s => readMap_digitOf s⟩

/-- Settles O50: both readings are the unsigned number of the pattern, and outside Counter the register is one number. -/
theorem binaryReadingsRoundTrip : Obligations.BinaryReadingsRoundTrip := by
  have hvalue : ∀ v ≤ 127, toValue (toPattern v) = v := fun v hv => by
    rw [toValue_eq_toNat, toPattern, BitVec.toNat_ofNat]
    omega
  refine ⟨ofNat_toValue, hvalue, fun s hs hm => ?_⟩
  rw [pattern_eq_value_of_modeInv hs hm, toValue_eq_toNat]
  exact ⟨BitVec.ofNat_toNat _ _, rfl⟩

/-- Settles O53: `valBcd_toNat`, and the Counter's VALUE is below ten. -/
theorem valbcdPacksTheDecimalDigits : Obligations.ValbcdPacksTheDecimalDigits := by
  refine ⟨fun s => ⟨valBcd s.value, readMap_valBcd s, valBcd_toNat s.value⟩, fun s hs hm => ?_⟩
  obtain ⟨-, -, hcounter⟩ := hs
  obtain ⟨hdigit, -⟩ := hcounter hm
  rw [readMap_valBcd, valBcd_of_le_nine hdigit]

end Sys2Proof.Machine
end

section
/-! PROOFS. The mode state machine (41_mode_control.md): a command MODE forbids is ignored (R104, R105), and MODE has one
writer besides power-on reset (R100). -/

namespace Sys2Proof.Machine

/-! ### Commands the mode forbids -/

/-- A segment index up to 6 is in its domain (30_encoding.md R66). -/
theorem segmentOperand_of_le_six {i : BitVec 3} (h : i.toNat ≤ 6) : segmentOperand i = .ok ⟨i.toNat, by omega⟩ :=
  dif_pos (by omega)

/-- A digit up to 9 is in its domain (30_encoding.md R66). -/
theorem digitOperand_of_le_nine {d : BitVec 4} (h : d.toNat ≤ 9) : digitOperand d = .ok ⟨d.toNat, by omega⟩ :=
  dif_pos (by omega)

/-- A command with its operand in its domain is ignored in a mode that forbids it (41_mode_control.md R105). SELMODE,
RESET and SETIVL are legal in every mode. -/
theorem exec_of_illegal {i : Instr} {s : State} (hw : i.wellFormed = true) (hl : legal i s.mode = false) :
    exec i s = .next s := by
  cases i with
  | selmode m => cases hl
  | toggle i =>
    have ho := segmentOperand_of_le_six (of_decide_eq_true hw)
    rw [exec, execToggle, ho, runCommand_of_illegal _ _ _ hl]
  | loadpat p => exact congrArg Host.Outcome.next (runCommand_of_illegal _ p loadPattern hl)
  | step => exact congrArg Host.Outcome.next (runCommand_of_illegal _ () _ hl)
  | nav dir => exact congrArg Host.Outcome.next (runCommand_of_illegal _ dir navigate hl)
  | reset => cases hl
  | seldig d =>
    have ho := digitOperand_of_le_nine (of_decide_eq_true hw)
    rw [exec, execSeldig, ho, runCommand_of_illegal _ _ _ hl]
  | setrun r => exact congrArg Host.Outcome.next (runCommand_of_illegal _ r setRunFlag hl)
  | setivl n => cases hl

/-! ### What keeps MODE, and SELMODE, which writes it -/

section ModeFrame

variable (s : State)

@[simp] theorem stepFn_mode : (stepFn s).mode = s.mode := by
  unfold stepFn
  split <;> rfl

@[simp] theorem stepRegister_mode : (stepRegister s).mode = s.mode := by simp [stepRegister]

@[simp] theorem restartElapsed_mode : (restartElapsed s).mode = s.mode := by
  rcases restartElapsed_cases s with ⟨-, h⟩ | ⟨-, h⟩ <;> simp [h]

@[simp] theorem setRunFlag_mode (r : Bool) : (setRunFlag r s).mode = s.mode := by
  unfold setRunFlag
  split <;> simp

@[simp] theorem schedulerTurn_mode : (schedulerTurn s).mode = s.mode := by
  cases h : s.tickDue with
  | false => rw [schedulerTurn_of_not_due h]
  | true => simp [schedulerTurn_of_due h]

@[simp] theorem timebaseEvent_mode (ms : Nat) : (timebaseEvent ms s).mode = s.mode := by
  unfold timebaseEvent
  split
  · rfl
  · split <;> rfl

@[simp] theorem selectMode_mode (m : Mode) : (selectMode m s).mode = m := by simp [selectMode]

end ModeFrame

/-- The encoding of a mode is SELMODE's operand for that mode (10_state.md R21). -/
theorem modeOperand_code (m : Mode) : modeOperand m.code = .ok m := by
  cases m <;> rfl

/-- In an unfaulted block SELMODE has its effect in every mode (41_mode_control.md R102, R104). -/
theorem exec_selmode_code {s : State} (hs : s.faulted = false) (m : Mode) :
    exec (.selmode m.code) s = .next (selectMode m s) := by
  rw [exec, execSelmode, modeOperand_code, runCommand_of_legal _ m selectMode hs rfl]

/-- No command but SELMODE changes MODE (41_mode_control.md R100). -/
theorem exec_mode {i : Instr} {s t : State} (h : exec i s = .next t) (hi : ∀ m, i ≠ .selmode m) : t.mode = s.mode := by
  cases i <;> cases h <;>
    refine runCommand_keeps (P := fun t => t.mode = s.mode) rfl (fun _ => rfl) fun a _ _ => ?_
  case selmode => exact absurd rfl (hi _)
  case toggle => exact mutate_mode s _ _
  case loadpat => exact mutate_mode s _ _
  case step => exact stepRegister_mode s
  case nav => exact mutate_mode s _ _
  case reset => exact mutate_mode _ _ _
  case seldig => exact mutate_mode s _ _
  case setrun => exact setRunFlag_mode s a
  case setivl => rfl

/-- A command word that changes MODE spells SELMODE. -/
theorem submit_mode {w : CmdWord} {s t : State} (h : submit w s = .next t) :
    t.mode = s.mode ∨ ∃ m, decode w = .ok (.selmode m) := by
  rcases submit_cases w s with ⟨-, hw⟩ | ⟨c, -, -, hw⟩ | ⟨i, -, hd, hw⟩ <;> rw [hw] at h
  · cases h
    exact .inl rfl
  · cases h
    exact .inl rfl
  · by_cases hi : ∃ m, i = .selmode m
    · obtain ⟨m, rfl⟩ := hi
      exact .inr ⟨m, hd⟩
    · exact .inl (exec_mode h (not_exists.1 hi))

/-- A read answers on RDATA and keeps MODE. -/
theorem hostRead_mode {a : ReadAddr} {s t : State} (h : hostRead a s = .next t) : t.mode = s.mode := by
  unfold hostRead at h
  split at h
  · cases h
    rfl
  · cases h

/-- An event that changes MODE is a SELMODE word or power-on reset. -/
theorem deliver_mode {e : Event} {s t : State} (h : deliver e s = .next t) :
    t.mode = s.mode ∨ (∃ w m, e = .command w ∧ decode w = .ok (.selmode m)) ∨ e = .powerOn := by
  cases e with
  | command w =>
    rcases submit_mode h with hm | ⟨m, hd⟩
    · exact .inl hm
    · exact .inr (.inl ⟨w, m, rfl, hd⟩)
  | read a => exact .inl (hostRead_mode h)
  | exportState ts => cases h; exact .inl rfl
  | tick => cases h; exact .inl (schedulerTurn_mode s)
  | timebase ms => cases h; exact .inl (timebaseEvent_mode s ms)
  | powerOn => exact .inr (.inr rfl)

/-- What a step that changes MODE has taken: a SELMODE word or power-on reset (41_mode_control.md R100,
70_reset_and_hazards.md R221). The scheduler's turn is no such step. -/
theorem step_mode_ne {s t : State} (h : step s = .next t) (hne : t.mode ≠ s.mode) :
    (∃ w m rest, s.pending = .command w :: rest ∧ decode w = .ok (.selmode m)) ∨
    (∃ rest, s.pending = .powerOn :: rest) := by
  cases hp : s.pending with
  | nil =>
    rw [step_of_idle hp] at h
    cases h
    exact absurd (schedulerTurn_mode s) hne
  | cons e rest =>
    rw [step_of_pending hp] at h
    rcases deliver_mode h with hm | ⟨w, m, rfl, hd⟩ | rfl
    · exact absurd hm hne
    · exact .inl ⟨w, m, rest, rfl, hd⟩
    · exact .inr ⟨rest, rfl⟩

/-! ### The obligations -/

/-- Settles O18: each clause is `exec_of_illegal` at the modes the legality table forbids. -/
theorem illegalForModeIsIgnored : Obligations.IllegalForModeIsIgnored := by
  intro s
  refine ⟨fun i hi hm => ?toggle, fun p hm => ?loadpat, fun hm => ?step, fun dir hm => ?nav, fun d hd hm => ?seldig,
    fun r hm => ?setrun⟩
  case toggle => exact exec_of_illegal (decide_eq_true hi) (by simpa [legal] using hm)
  case loadpat => exact exec_of_illegal rfl (by simp [legal, hm])
  case step => exact exec_of_illegal rfl (by simp [legal, hm])
  case nav => exact exec_of_illegal rfl (by simpa [legal] using hm)
  case seldig => exact exec_of_illegal (decide_eq_true hd) (by simpa [legal] using hm)
  case setrun => exact exec_of_illegal rfl (by simp [legal, hm])

/-- Settles O39: SELMODE reaches every mode by its effect, and `step_mode_ne` names what a change of MODE takes. -/
theorem onlySelmodeChangesMode : Obligations.OnlySelmodeChangesMode :=
  ⟨fun s m hs => ⟨selectMode m s, exec_selmode_code hs m, selectMode_mode s m⟩, fun _ _ => step_mode_ne, rfl⟩

end Sys2Proof.Machine
end

section
/-! PROOFS. The scheduler (43_scheduler.md): when a TICK is enabled (R150), and what a tick does then and otherwise (R151). -/

namespace Sys2Proof.Machine

/-- STEP and TICK leave the choice of the timed refinement alone. -/
@[simp] theorem stepFn_timing (s : State) : (stepFn s).timing = s.timing := by
  unfold stepFn
  split <;> rfl

@[simp] theorem stepRegister_timing (s : State) : (stepRegister s).timing = s.timing := by simp [stepRegister]

/-- The untimed model has no ELAPSED to restart (43_scheduler.md R154). -/
theorem restartElapsed_of_untimed {s : State} (h : s.timing = .untimed) : restartElapsed s = s := by
  simp [restartElapsed, h]

/-- The enabling condition, term by term (43_scheduler.md R150). -/
theorem tickEnabled_iff (s : State) :
    s.tickEnabled = true ↔ s.running = true ∧ (s.mode = .animation ∨ s.mode = .counter) ∧ s.faulted = false := by
  simp [State.tickEnabled, and_assoc]

/-- In an unfaulted block STEP has its effect in Animation and Counter (42_register_ops.md R124, 41_mode_control.md R104). -/
theorem exec_step_of_legal {s : State} (hf : s.faulted = false) (hl : legal .step s.mode = true) :
    exec .step s = .next (stepRegister s) :=
  congrArg Host.Outcome.next (runCommand_of_legal .step () (fun _ => stepRegister) hf hl)

/-- A step with a tick next in the order of effect is the scheduler's turn. -/
theorem step_of_tick {s : State} {rest : List Event} (h : s.pending = .tick :: rest) :
    step s = .next (schedulerTurn (s.setPending rest)) := step_of_pending h

/-- STEP is legal in the modes where a TICK is enabled (41_mode_control.md R104). -/
theorem exec_step_of_tickEnabled {s : State} (h : s.tickEnabled = true) : exec .step s = .next (stepRegister s) := by
  obtain ⟨-, hm, hf⟩ := (tickEnabled_iff s).1 h
  exact exec_step_of_legal hf (by simpa [legal] using hm)

/-- In the untimed model an enabled TICK is one step of the register (43_scheduler.md R151). -/
theorem schedulerTurn_of_untimed {s : State} (ht : s.timing = .untimed) (h : s.tickEnabled = true) :
    schedulerTurn s = stepRegister s := by
  have hdue : s.tickDue = true := (tickDue_of_untimed ht).trans h
  rw [schedulerTurn_of_due hdue, restartElapsed_of_untimed ((stepRegister_timing s).trans ht)]

/-- Settles O32: an enabled tick and STEP are both `stepRegister`, and a tick that is not enabled is never due. -/
theorem tickStepsOnlyWhenEnabled : Obligations.TickStepsOnlyWhenEnabled := by
  refine fun s => ⟨tickEnabled_iff s, fun ht h rest hp => ?enabled, fun h rest hp => ?discarded⟩
  case enabled =>
    have hturn : schedulerTurn (s.setPending rest) = stepRegister (s.setPending rest) := schedulerTurn_of_untimed ht h
    have hexec : exec .step (s.setPending rest) = .next (stepRegister (s.setPending rest)) := exec_step_of_tickEnabled h
    rw [step_of_tick hp, hturn]
    exact hexec.symm
  case discarded =>
    have hturn : schedulerTurn (s.setPending rest) = s.setPending rest :=
      schedulerTurn_of_not_due (tickDue_of_not_enabled h)
    rw [step_of_tick hp, hturn]
    rfl

end Sys2Proof.Machine
end

section
/-! PROOFS. The History Buffer (44_history.md): the exact sample (R170), what a step can do to the history (R173), and
the capacity laws of a sequence of records (R175). -/

namespace Sys2Proof.Machine

/-! ### The sample -/

/-- A digit's sample in Counter mode fits its 11 bits (44_history.md R170). -/
theorem sample_counter_toNat {v : Nat} (hv : v ≤ 9) : (sample v .counter).toNat = 127 * v :=
  Nat.mod_eq_of_lt (show 127 * v < 2048 by omega)

/-- A 7-bit value's sample outside Counter mode fits its 11 bits (44_history.md R170). -/
theorem sample_binary_toNat {v : Nat} {m : Mode} (hm : m ≠ .counter) (hv : v ≤ 127) : (sample v m).toNat = 10 * v := by
  have hfits : 10 * v % 2048 = 10 * v := Nat.mod_eq_of_lt (by omega)
  cases m with
  | animation => exact hfits
  | manual => exact hfits
  | counter => exact absurd rfl hm

/-! ### What keeps the history -/

@[simp] theorem stepFn_hist (s : State) : (stepFn s).hist = s.hist := by
  unfold stepFn
  split <;> rfl

@[simp] theorem restartElapsed_hist (s : State) : (restartElapsed s).hist = s.hist := by
  rcases restartElapsed_cases s with ⟨-, h⟩ | ⟨-, h⟩ <;> simp [h]

@[simp] theorem setRunFlag_hist (r : Bool) (s : State) : (setRunFlag r s).hist = s.hist := by
  unfold setRunFlag
  split <;> simp

@[simp] theorem timebaseEvent_hist (ms : Nat) (s : State) : (timebaseEvent ms s).hist = s.hist := by
  unfold timebaseEvent
  split
  · rfl
  · split <;> rfl

/-- A read answers on RDATA and keeps the history. -/
theorem hostRead_hist {a : ReadAddr} {s t : State} (h : hostRead a s = .next t) : t.hist = s.hist := by
  unfold hostRead at h
  split at h
  · cases h
    rfl
  · cases h

/-! ### At most one sample -/

/-- From s to t the history is kept, or takes one sample in front and keeps the newest 40 (44_history.md R171, R173). -/
abbrev State.AddsAtMostOne (s t : State) : Prop := t.hist = s.hist ∨ ∃ x : Sample, t.hist = (x :: s.hist).take 40

/-- `afterWrite` adds at most one sample to the history the register write has kept (44_history.md R172). -/
theorem afterWrite_addsAtMostOne {s u : State} (hu : u.hist = s.hist) (k : WriteKind) (oldP : Pattern) (oldV : Value) :
    s.AddsAtMostOne (afterWrite k oldP oldV u) := by
  have hhist := afterWrite_hist k oldP oldV u
  rw [hu] at hhist
  split at hhist
  · exact .inr ⟨_, hhist⟩
  · exact .inl hhist

theorem mutate_addsAtMostOne (p : Pattern) (v : Nat) (s : State) : s.AddsAtMostOne (mutate p v s) :=
  afterWrite_addsAtMostOne (setRegister_hist s p v) _ _ _

theorem stepRegister_addsAtMostOne (s : State) : s.AddsAtMostOne (stepRegister s) :=
  afterWrite_addsAtMostOne (stepFn_hist s) _ _ _

theorem selectMode_addsAtMostOne (m : Mode) (s : State) : s.AddsAtMostOne (selectMode m s) :=
  afterWrite_addsAtMostOne (by simp) _ _ _

theorem schedulerTurn_addsAtMostOne (s : State) : s.AddsAtMostOne (schedulerTurn s) := by
  cases hdue : s.tickDue with
  | false => exact .inl (congrArg State.hist (schedulerTurn_of_not_due hdue))
  | true => simpa [State.AddsAtMostOne, schedulerTurn_of_due hdue] using stepRegister_addsAtMostOne s

/-- Every command adds at most one sample; a fault and an ignored command add none (44_history.md R173). -/
theorem exec_addsAtMostOne {i : Instr} {s t : State} (h : exec i s = .next t) : s.AddsAtMostOne t := by
  cases i <;> cases h <;> refine runCommand_keeps (.inl rfl) (fun _ => .inl rfl) fun a _ _ => ?_
  case selmode => exact selectMode_addsAtMostOne a s
  case toggle => exact mutate_addsAtMostOne _ _ s
  case loadpat => exact mutate_addsAtMostOne _ _ s
  case step => exact stepRegister_addsAtMostOne s
  case nav => exact mutate_addsAtMostOne _ _ s
  case reset => exact mutate_addsAtMostOne _ _ (s.setRunning false)
  case seldig => exact mutate_addsAtMostOne _ _ s
  case setrun => exact .inl (setRunFlag_hist a s)
  case setivl => exact .inl rfl

theorem submit_addsAtMostOne {w : CmdWord} {s t : State} (h : submit w s = .next t) : s.AddsAtMostOne t := by
  rcases submit_cases w s with ⟨-, hw⟩ | ⟨c, -, -, hw⟩ | ⟨i, -, -, hw⟩ <;> rw [hw] at h
  · cases h
    exact .inl rfl
  · cases h
    exact .inl rfl
  · exact exec_addsAtMostOne h

/-- Every event but power-on reset adds at most one sample. -/
theorem deliver_addsAtMostOne {e : Event} {s t : State} (h : deliver e s = .next t) (he : e ≠ .powerOn) :
    s.AddsAtMostOne t := by
  cases e with
  | command w => exact submit_addsAtMostOne h
  | read a => exact .inl (hostRead_hist h)
  | exportState ts => cases h; exact .inl rfl
  | tick => cases h; exact schedulerTurn_addsAtMostOne s
  | timebase ms => cases h; exact .inl (timebaseEvent_hist ms s)
  | powerOn => exact absurd rfl he

/-- A step with power-on reset next empties the history (10_state.md R33, 70_reset_and_hazards.md R221). -/
theorem step_hist_of_powerOn {s t : State} {rest : List Event} (h : step s = .next t)
    (hp : s.pending = .powerOn :: rest) : t.hist = [] := by
  rw [step_of_pending hp] at h
  cases h
  rfl

/-- Every other step, the scheduler's turn included, adds at most one sample. -/
theorem step_addsAtMostOne {s t : State} (h : step s = .next t) (hp : ∀ rest, s.pending ≠ .powerOn :: rest) :
    s.AddsAtMostOne t := by
  cases hq : s.pending with
  | nil =>
    rw [step_of_idle hq] at h
    cases h
    exact schedulerTurn_addsAtMostOne s
  | cons e rest =>
    rw [step_of_pending hq] at h
    refine deliver_addsAtMostOne (s := s.setPending rest) h ?_
    rintro rfl
    exact hp rest hq

/-! ### The capacity -/

/-- Adding at most one sample keeps the history within its capacity. -/
theorem hlen_le_of_addsAtMostOne {s t : State} (hs : s.hlen ≤ 40) (h : s.AddsAtMostOne t) : t.hlen ≤ 40 := by
  rcases h with h | ⟨x, h⟩ <;> rw [State.hlen, h]
  · exact hs
  · exact List.length_take_le _ _

@[simp] theorem record_hist (v : Nat) (m : Mode) (s : State) :
    (record v m s).hist = (sample v m :: s.hist).take 40 := rfl

/-- From an empty buffer a sequence of records leaves its newest 40 samples, newest first (44_history.md R175). -/
theorem foldl_record_hist {s : State} (hs : s.hist = []) (l : List (Nat × Mode)) :
    (l.foldl (fun s x => record x.1 x.2 s) s).hist = (l.reverse.map fun x => sample x.1 x.2).take 40 := by
  induction l using List.reverseRecOn with
  | nil => simpa using hs
  | append_singleton l x ih => simp [ih, List.take_take]

/-! ### The obligations -/

/-- Settles O41: power-on reset empties the history, and `step_addsAtMostOne` is every other step. -/
theorem onlyPowerOnEmptiesHistory : Obligations.OnlyPowerOnEmptiesHistory := by
  intro s t h
  by_cases hp : ∃ rest, s.pending = .powerOn :: rest
  · obtain ⟨rest, hp⟩ := hp
    exact .inl ⟨rest, hp, step_hist_of_powerOn h hp⟩
  · have hp := not_exists.1 hp
    exact .inr ⟨hp, step_addsAtMostOne h hp⟩

/-- Settles O44: the bound by O41's two kinds of step, and the laws of records by `foldl_record_hist`. -/
theorem historyKeepsTheNewestForty : Obligations.HistoryKeepsTheNewestForty := by
  refine ⟨fun _ _ => Nat.zero_le 40, fun s t hs h => ?bound, fun l s hs => ?records⟩
  case bound =>
    rcases onlyPowerOnEmptiesHistory s t h with ⟨-, -, hnil⟩ | ⟨-, hadds⟩
    · simp [State.hlen, hnil]
    · exact hlen_le_of_addsAtMostOne hs hadds
  case records =>
    intro t
    have hhist : t.hist = (l.reverse.map fun x => sample x.1 x.2).take 40 := foldl_record_hist hs l
    have hlen : t.hlen = min l.length 40 := by simp [State.hlen, hhist, min_comm]
    refine ⟨hlen, fun k hk => ?_, fun h41 => ?_⟩
    · rw [hhist, List.getElem?_take_of_lt (by omega)]
    · rw [hhist, List.map_reverse, List.take_reverse, List.length_map, h41, List.map_drop]

/-- Settles O43: neither product wraps, and the mode invariant bounds VALUE in Counter. -/
theorem sampleIsExactTenths : Obligations.SampleIsExactTenths := by
  refine ⟨fun v => sample_counter_toNat, fun v hv => ?binary, fun s hs => ?state⟩
  case binary => exact ⟨sample_binary_toNat (by decide) hv, sample_binary_toNat (by decide) hv⟩
  case state =>
    split
    next hm =>
      obtain ⟨-, -, hcounter⟩ := hs
      obtain ⟨hdigit, -⟩ := hcounter hm
      rw [hm, sample_counter_toNat hdigit]
    next hm => exact sample_binary_toNat hm (by omega)

end Sys2Proof.Machine
end

section
/-! PROOFS. The fault model (60_exceptions.md): the word a command was decoded from is the command's own (30_encoding.md
R67), fault entry is the only way a command faults the block (R192), and the order of the checks (R194). -/

namespace Sys2Proof.Machine

/-! ### The word of a decoded command -/

/-- An operand field at the word's low end, put back there, is the word without its higher bits (30_encoding.md R61). -/
theorem setWidth_extractLsb'_low (w : CmdWord) (k : Nat) :
    (w.extractLsb' 0 k).setWidth 16 = w &&& ~~~(BitVec.allOnes 16 <<< k) := by
  ext j hj
  by_cases hjk : j < k <;> simp [hjk, hj, -BitVec.reduceAllOnes]

/-- A one-bit operand field is the word's bit 0. -/
theorem ofBool_getLsbD_zero (w : CmdWord) : BitVec.ofBool (w.getLsbD 0) = w.extractLsb' 0 1 := by
  ext j hj
  obtain rfl : j = 0 := by omega
  simp

@[simp] theorem bitOfDirection_directionOfBit (b : Bool) : bitOfDirection (directionOfBit b) = b := by
  cases b <;> rfl

/-- The word of the command a row builds: the row's match, and the operand field of the word it was built from. -/
theorem encode_build {r : Row} (hr : r ∈ opcodeMap) (w : CmdWord) :
    encode (r.build w) = r.fixed ||| (w &&& ~~~r.mask) := by
  have field (fixed : CmdWord) (k : Nat) := congrArg (fixed ||| ·) (setWidth_extractLsb'_low w k)
  have flag (fixed : CmdWord) := (ofBool_getLsbD_zero w) ▸ field fixed 1
  revert r
  simp only [opcodeMap, List.forall_mem_cons, encode, bitOfDirection_directionOfBit]
  refine ⟨field _ 2, field _ 3, field _ 7, ?step, flag _, ?reset, field _ 4, flag _, field _ 10, nofun⟩
  case step => simp
  case reset => simp

/-- A word that spells a command is that command's word (30_encoding.md R67). -/
theorem encode_of_decode {w : CmdWord} {i : Instr} (h : decode w = .ok i) : encode i = w := by
  rcases decode_cases w with ⟨-, hd⟩ | ⟨r, -, -, -, hd⟩ | ⟨r, hr, -, hm, hd⟩ <;> rw [hd] at h <;> cases h
  calc encode (r.build w) = (w &&& r.mask) ||| (w &&& ~~~r.mask) := by rw [encode_build hr, hm]
    _ = w := by rw [← BitVec.and_or_distrib_left, BitVec.or_not_self, BitVec.and_allOnes]

/-! ### What a command word does, by the decoder's answer -/

/-- A faulted block takes the command word off the pending list and does nothing (60_exceptions.md R193). -/
theorem step_of_command_faulted {s : State} {w : CmdWord} {rest : List Event} (hs : s.faulted = true)
    (hp : s.pending = .command w :: rest) : step s = .next (s.setPending rest) := by
  rw [step_of_pending hp]
  simp [deliver, submit, hs]

/-- A word that spells a command executes it in an unfaulted block (60_exceptions.md R194). -/
theorem step_of_decode_ok {s : State} {w : CmdWord} {rest : List Event} {i : Instr} (hs : s.faulted = false)
    (hp : s.pending = .command w :: rest) (hd : decode w = .ok i) : step s = exec i (s.setPending rest) := by
  rw [step_of_pending hp]
  simp [deliver, submit, hs, hd]

/-- A word of an assigned opcode that spells no command has a reserved bit set (30_encoding.md R65). -/
theorem decode_eq_reservedBits {w : CmdWord} (hop : ¬(w.toNat / 4096 = 0 ∨ 10 ≤ w.toNat / 4096))
    (hno : ∀ i, decode w ≠ .ok i) : decode w = .error .reservedBits := by
  rcases decode_cases w with ⟨-, hd⟩ | ⟨r, -, -, -, hd⟩ | ⟨r, -, -, -, hd⟩
  · exact absurd ((decode_eq_reservedOpcode_iff w).1 hd) hop
  · exact hd
  · exact absurd hd (hno _)

/-! ### An operand out of its domain -/

/-- The causes an operand can raise (30_encoding.md R66). -/
abbrev operandCauses : List Cause := [.reservedMode, .indexOutOfRange, .digitOutOfRange, .intervalOutOfRange]

/-- A command with its operand outside its domain faults with an operand cause and its own word, in every mode
(30_encoding.md R66). -/
theorem exec_of_illFormed {i : Instr} {s : State} (hs : s.faulted = false) (hw : i.wellFormed = false) :
    ∃ c ∈ operandCauses, exec i s = .next { s with status := faultStatus c, fcmd := encode i } := by
  obtain ⟨hselmode, htoggle, hseldig, hsetivl⟩ := reservedOperandsFaultInEveryMode s hs
  cases i with
  | selmode m =>
    have hm : ¬ m.toNat ≤ 2 := of_decide_eq_false hw
    obtain rfl : m = 3 := by bv_omega
    exact ⟨.reservedMode, by decide, hselmode⟩
  | toggle k =>
    have hk : ¬ k.toNat ≤ 6 := of_decide_eq_false hw
    obtain rfl : k = 7 := by bv_omega
    exact ⟨.indexOutOfRange, by decide, htoggle⟩
  | seldig d =>
    have hd : ¬ d.toNat ≤ 9 := of_decide_eq_false hw
    exact ⟨.digitOutOfRange, by decide, hseldig d (by omega)⟩
  | setivl n =>
    have hn : 50 ≤ n.toNat → 1000 < n.toNat := by simpa [Instr.wellFormed] using hw
    exact ⟨.intervalOutOfRange, by decide, hsetivl n (by omega)⟩
  | loadpat | step | nav | reset | setrun => cases hw

/-! ### What keeps FAULTED -/

section FaultedFrame

variable (s : State)

@[simp] theorem stepFn_faulted : (stepFn s).faulted = s.faulted := by
  unfold stepFn
  split <;> rfl

@[simp] theorem stepRegister_faulted : (stepRegister s).faulted = s.faulted := by simp [stepRegister]

@[simp] theorem restartElapsed_faulted : (restartElapsed s).faulted = s.faulted := by
  rcases restartElapsed_cases s with ⟨-, h⟩ | ⟨-, h⟩ <;> simp [h]

@[simp] theorem setRunFlag_faulted (r : Bool) : (setRunFlag r s).faulted = s.faulted := by
  unfold setRunFlag
  split <;> simp

@[simp] theorem selectMode_faulted (m : Mode) : (selectMode m s).faulted = s.faulted := by simp [selectMode]

end FaultedFrame

/-- A command faults the block by fault entry with its own word, and in no other way (60_exceptions.md R192). -/
theorem exec_faulted {i : Instr} {s t : State} (h : exec i s = .next t) :
    t.faulted = s.faulted ∨ ∃ c, t = raiseFault c (encode i) s := by
  cases i <;> cases h <;>
    refine runCommand_keeps (P := fun t => t.faulted = s.faulted ∨ ∃ c, t = raiseFault c (encode _) s) (.inl rfl)
      (fun c => .inr ⟨c, rfl⟩) fun a _ _ => .inl ?_
  case selmode => exact selectMode_faulted s a
  case toggle => exact mutate_faulted s _ _
  case loadpat => exact mutate_faulted s _ _
  case step => exact stepRegister_faulted s
  case nav => exact mutate_faulted s _ _
  case reset => exact mutate_faulted _ _ _
  case seldig => exact mutate_faulted s _ _
  case setrun => exact setRunFlag_faulted s a
  case setivl => rfl

/-! ### The obligations -/

/-- Settles O15: a word faults the block by the decoder's error or by `exec_faulted`, whose command's word it is. -/
theorem faultEntryWritesOnlyStatusAndFcmd : Obligations.FaultEntryWritesOnlyStatusAndFcmd := by
  intro s t w rest hs hp h ht
  cases hd : decode w with
  | error c =>
    rw [step_of_decode_error hs hp hd] at h
    exact ⟨c, (Host.Outcome.next.inj h).symm⟩
  | ok i =>
    rw [step_of_decode_ok hs hp hd] at h
    rcases exec_faulted h with hkept | ⟨c, hfault⟩
    · rw [ht, setPending_faulted, hs] at hkept
      cases hkept
    · rw [encode_of_decode hd] at hfault
      exact ⟨c, hfault⟩

/-- Settles O17: one lemma for each of the six checks, the word of a decoded command being `encode_of_decode`'s. -/
theorem commandChecksInOrder : Obligations.CommandChecksInOrder := by
  intro s w rest hp
  refine ⟨fun hs => ?faulted, fun hs hop => ?opcode, fun hs hop hno => ?bits, fun i hs hd hw => ?operand,
    fun i hs hd hw hl => ?illegal, fun i hs hd _ _ => ?executed⟩
  case faulted => exact step_of_command_faulted hs hp
  case opcode => exact step_of_decode_error hs hp ((decode_eq_reservedOpcode_iff w).2 hop)
  case bits => exact step_of_decode_error hs hp (decode_eq_reservedBits hop hno)
  case operand =>
    obtain ⟨c, hc, hexec⟩ := exec_of_illFormed (s := s.setPending rest) hs hw
    rw [encode_of_decode hd] at hexec
    exact ⟨c, hc, (step_of_decode_ok hs hp hd).trans hexec⟩
  case illegal => exact (step_of_decode_ok hs hp hd).trans (exec_of_illegal hw hl)
  case executed => exact step_of_decode_ok hs hp hd

end Sys2Proof.Machine
end

section
/-! PROOFS. The decoder and the encoder invert each other (30_encoding.md R61 to R68), and a command word is its decoded
command (60_exceptions.md R194). -/

namespace Sys2Proof.Machine

/-! ### The operand field of an encoded word -/

/-- A field put into the free low bits of a word is read back from them (30_encoding.md R61). -/
theorem extractLsb'_or_setWidth {k : Nat} (hk : k ≤ 16) (fixed : CmdWord) (hfree : fixed.extractLsb' 0 k = 0)
    (x : BitVec k) : (fixed ||| x.setWidth 16).extractLsb' 0 k = x := by
  rw [BitVec.extractLsb'_or, hfree, ← BitVec.setWidth_eq_extractLsb' hk, BitVec.setWidth_setWidth_of_le x hk,
    BitVec.setWidth_eq]
  exact BitVec.zero_or

/-- Every command has a row of the opcode map that its word selects and that builds it from that word (30_encoding.md
R61 to R63). -/
theorem exists_row_of_encode (i : Instr) :
    ∃ r ∈ opcodeMap, encode i &&& r.mask = r.fixed ∧ r.build (encode i) = i := by
  have row (k : Fin 9) : opcodeMap.get k ∈ opcodeMap := opcodeMap.get_mem k
  have field {k : Nat} (build : BitVec k → Instr) := fun fixed hfree hk x =>
    congrArg build (extractLsb'_or_setWidth hk fixed hfree x)
  cases i with
  | selmode m => exact ⟨_, row 0, (Laws.RowMatch.selmode m).2, field .selmode _ rfl (by decide) m⟩
  | toggle k => exact ⟨_, row 1, (Laws.RowMatch.toggle k).2, field .toggle _ rfl (by decide) k⟩
  | loadpat p => exact ⟨_, row 2, (Laws.RowMatch.loadpat p).2, field .loadpat _ rfl (by decide) p⟩
  | step => exact ⟨_, row 3, Laws.RowMatch.step.2, rfl⟩
  | nav dir => exact ⟨_, row 4, (Laws.RowMatch.nav dir).2, by cases dir <;> rfl⟩
  | reset => exact ⟨_, row 5, Laws.RowMatch.reset.2, rfl⟩
  | seldig d => exact ⟨_, row 6, (Laws.RowMatch.seldig d).2, field .seldig _ rfl (by decide) d⟩
  | setrun r => exact ⟨_, row 7, (Laws.RowMatch.setrun r).2, by cases r <;> rfl⟩
  | setivl n => exact ⟨_, row 8, (Laws.RowMatch.setivl n).2, field .setivl _ rfl (by decide) n⟩

/-! ### The obligations -/

/-- Settles O8: the row a command's word selects builds the command from it. -/
theorem decodeOfEncodeIsTheCommand : Obligations.DecodeOfEncodeIsTheCommand := by
  intro i
  obtain ⟨r, hr, hmatch, hbuild⟩ := exists_row_of_encode i
  calc decode (encode i) = .ok (r.build (encode i)) := (decode_eq_build_iff hr (encode i)).2 hmatch
    _ = .ok i := by rw [hbuild]

/-- Settles O9: the row that decodes a word fixes the bits its operand does not hold. -/
theorem decodedWordIsItsEncoding : Obligations.DecodedWordIsItsEncoding :=
  fun _ _ => encode_of_decode

/-- Settles O11: closed words, each evaluated by the decoder. -/
theorem wordsOfTheSpecDecode : Obligations.WordsOfTheSpecDecode := by
  unfold Obligations.WordsOfTheSpecDecode
  decide

/-- A faulted block ignores every command, whatever its operand (60_exceptions.md R193). -/
theorem exec_of_faulted (i : Instr) {s : State} (hs : s.faulted = true) : exec i s = .next s := by
  cases i <;> exact congrArg Host.Outcome.next (runCommand_of_faulted _ _ _ hs)

/-- Settles O31: an unfaulted block executes the decoded command, and a faulted one ignores the word as it would the
command. -/
theorem stepRunsTheDecodedCommand : Obligations.StepRunsTheDecodedCommand := by
  intro s w i rest hp hd
  cases hs : s.faulted with
  | false => exact step_of_decode_ok hs hp hd
  | true => exact (step_of_command_faulted hs hp).trans (exec_of_faulted i (s := s.setPending rest) hs).symm

end Sys2Proof.Machine
end

section
/-! PROOFS. What a command and what a step can do to the block, each said once: the writers of 10_state.md R20 by kind of
command, and the kinds of event of 20_memory.md R49. -/

namespace Sys2Proof.Machine

/-! ### The frames of the effects -/

/-- `afterWrite` leaves the frame of the register write it follows (44_history.md R172). -/
theorem afterWrite_sameControl {s u : State} (h : s.SameControl u) (k : WriteKind) (oldP : Pattern) (oldV : Value) :
    s.SameControl (afterWrite k oldP oldV u) := by
  simpa [State.SameControl, State.SameModel] using h

theorem mutate_sameControl (p : Pattern) (v : Nat) (s : State) : s.SameControl (mutate p v s) :=
  afterWrite_sameControl ⟨rfl, rfl, rfl, rfl, rfl, rfl, rfl, rfl, rfl⟩ _ _ _

theorem stepFn_sameControl (s : State) : s.SameControl (stepFn s) := by
  unfold stepFn
  split <;> exact ⟨rfl, rfl, rfl, rfl, rfl, rfl, rfl, rfl, rfl⟩

theorem stepRegister_sameControl (s : State) : s.SameControl (stepRegister s) :=
  afterWrite_sameControl (stepFn_sameControl s) _ _ _

/-- A tick's frame is STEP's, ELAPSED apart (43_scheduler.md R151, R155). -/
theorem schedulerTurn_sameControl (s : State) : s.SameControl ((schedulerTurn s).setElapsed s.elapsed) := by
  cases hdue : s.tickDue with
  | false =>
    rw [schedulerTurn_of_not_due hdue]
    exact ⟨rfl, rfl, rfl, rfl, rfl, rfl, rfl, rfl, rfl⟩
  | true =>
    obtain ⟨hmode, hrunning, hinterval, hstatus, hfcmd, -, hmodel⟩ := stepRegister_sameControl s
    rw [schedulerTurn_of_due hdue]
    rcases restartElapsed_cases (stepRegister s) with ⟨-, h⟩ | ⟨-, h⟩ <;> rw [h] <;>
      exact ⟨hmode, hrunning, hinterval, hstatus, hfcmd, rfl, hmodel⟩

/-- From s to t the scheduler is stopped; INTERVAL, STATUS, FCMD, ELAPSED and the model's own fields are kept. -/
abbrev State.Stopped (s t : State) : Prop :=
  t.running = false ∧ t.interval = s.interval ∧ t.status = s.status ∧ t.fcmd = s.fcmd ∧ t.elapsed = s.elapsed ∧
  s.SameModel t

theorem selectMode_stopped (m : Mode) (s : State) : s.Stopped (selectMode m s) := by
  simp [State.Stopped, State.SameModel, selectMode]

theorem resetRegister_stopped (s : State) : s.Stopped (resetRegister s) := by
  simp [State.Stopped, State.SameModel, resetRegister]

/-- SETRUN's effect, field by field (43_scheduler.md R152, R155). -/
theorem setRunFlag_eq (r : Bool) (s : State) : setRunFlag r s = { s with
    running := r
    elapsed := if s.timing = .timed ∧ r = true ∧ s.running = false then 0 else s.elapsed } := by
  unfold setRunFlag restartElapsed
  cases r <;> cases hr : s.running <;> cases ht : s.timing <;> simp [State.setRunning, State.setElapsed, ht]

/-! ### What a command can do -/

/-- The commands that write PATTERN, VALUE and what records them, and nothing else (42_register_ops.md R120). -/
abbrev RegisterOp (i : Instr) : Prop :=
  (∃ x, i = .toggle x) ∨ (∃ p, i = .loadpat p) ∨ i = .step ∨ (∃ dir, i = .nav dir) ∨ ∃ d, i = .seldig d

/-- What the command i can make of the state s, by the registers the table of 10_state.md R20 lets it write. -/
inductive CommandEffect (i : Instr) (s : State) : State → Prop
  | ignored : CommandEffect i s s
  | fault (c : Cause) : CommandEffect i s (raiseFault c (encode i) s)
  | register {t : State} (hi : RegisterOp i) (hlegal : legal i s.mode = true) (frame : s.SameControl t) :
      CommandEffect i s t
  | stop {t : State} (hi : (∃ m, i = .selmode m) ∨ i = .reset) (frame : s.Stopped t) : CommandEffect i s t
  | setrun (r : Bool) (hi : i = .setrun r) (hmode : s.mode ≠ .manual) : CommandEffect i s (setRunFlag r s)
  | setivl (n : Interval) (hi : i = .setivl n) (hn : 50 ≤ n.toNat ∧ n.toNat ≤ 1000) :
      CommandEffect i s (s.setInterval n)

/-- An interval that passes the operand check is the operand, and lies in its domain (30_encoding.md R66). -/
theorem intervalOperand_ok {n a : Interval} (h : intervalOperand n = .ok a) :
    a = n ∧ 50 ≤ n.toNat ∧ n.toNat ≤ 1000 := by
  unfold intervalOperand at h
  split at h
  next hn => exact ⟨(Except.ok.inj h).symm, hn⟩
  next => cases h

/-- Every command has one of these effects. -/
theorem exec_effect {i : Instr} {s t : State} (h : exec i s = .next t) : CommandEffect i s t := by
  cases i <;> cases h <;> refine runCommand_keeps .ignored .fault fun a ha hlegal => ?_
  case selmode m => exact .stop (.inl ⟨m, rfl⟩) (selectMode_stopped a s)
  case toggle x => exact .register (.inl ⟨x, rfl⟩) hlegal (mutate_sameControl _ _ s)
  case loadpat p => exact .register (.inr (.inl ⟨p, rfl⟩)) hlegal (mutate_sameControl _ _ s)
  case step => exact .register (.inr (.inr (.inl rfl))) hlegal (stepRegister_sameControl s)
  case nav dir => exact .register (.inr (.inr (.inr (.inl ⟨dir, rfl⟩)))) hlegal (mutate_sameControl _ _ s)
  case reset => exact .stop (.inr rfl) (resetRegister_stopped s)
  case seldig d => exact .register (.inr (.inr (.inr (.inr ⟨d, rfl⟩)))) hlegal (mutate_sameControl _ _ s)
  case setrun r =>
    obtain rfl : r = a := Except.ok.inj ha
    exact .setrun r rfl (by rintro hm; simp [legal, hm] at hlegal)
  case setivl n =>
    obtain ⟨rfl, hn⟩ := intervalOperand_ok ha
    exact .setivl a rfl hn

/-- What is pending is no command's to write. -/
theorem CommandEffect.pending {i : Instr} {s t : State} (h : CommandEffect i s t) : t.pending = s.pending := by
  cases h with
  | ignored => rfl
  | fault c => rfl
  | register hi hlegal frame =>
    obtain ⟨-, -, -, -, -, -, -, -, hpending⟩ := frame
    exact hpending
  | stop hi frame =>
    obtain ⟨-, -, -, -, -, -, -, hpending⟩ := frame
    exact hpending
  | setrun r hi hmode => rw [setRunFlag_eq]
  | setivl n hi hn => rfl

/-! ### What a step can do -/

/-- The eight registers of 10_state.md R20 are as before. -/
abbrev State.SameStored (s t : State) : Prop :=
  t.mode = s.mode ∧ t.pattern = s.pattern ∧ t.value = s.value ∧ t.running = s.running ∧ t.interval = s.interval ∧
  t.hist = s.hist ∧ t.status = s.status ∧ t.fcmd = s.fcmd

/-- What a step can make of s: the scheduler's turn, a word that spells no command, a command's effect, an event that
writes no register of R20 (a read, a snapshot, TIMEBASE, and any command word of a faulted block), or power-on reset. -/
inductive StepEffect (s t : State) : Prop
  | turn (hp : s.pending = [] ∨ ∃ rest, s.pending = .tick :: rest)
      (ht : t = schedulerTurn (s.setPending s.pending.tail))
  | fault (w : CmdWord) (rest : List Event) (c : Cause) (hp : s.pending = .command w :: rest)
      (hs : s.faulted = false) (ht : t = raiseFault c w (s.setPending rest))
  | command (w : CmdWord) (i : Instr) (rest : List Event) (hp : s.pending = .command w :: rest)
      (hs : s.faulted = false) (hd : decode w = .ok i) (effect : CommandEffect i (s.setPending rest) t)
  | quiet (e : Event) (rest : List Event) (hp : s.pending = e :: rest) (he : e ≠ .powerOn) (frame : s.SameStored t)
      (hpending : t.pending = rest) (helapsed : s.faulted = true → t.elapsed = s.elapsed)
  | powerOn (rest : List Event) (hp : s.pending = .powerOn :: rest) (ht : t = powerOnReset (s.setPending rest))

/-- A TIMEBASE event writes ELAPSED at most, and not in a faulted block (43_scheduler.md R155). -/
theorem timebaseEvent_cases (ms : Nat) (s : State) :
    timebaseEvent ms s = s ∨
    (s.running = true ∧ s.faulted = false ∧ timebaseEvent ms s = s.setElapsed (s.elapsed + ms)) := by
  unfold timebaseEvent
  split
  · exact .inl rfl
  · split
    next h =>
      obtain ⟨hr, hf⟩ : s.running = true ∧ s.faulted = false := by simpa using h
      exact .inr ⟨hr, hf, rfl⟩
    next => exact .inl rfl

/-- An answered read has emitted its word (20_memory.md R43). -/
theorem hostRead_eq_next {a : ReadAddr} {s t : State} (h : hostRead a s = .next t) :
    ∃ w, t = s.emit (.readData a w) := by
  unfold hostRead at h
  split at h
  next w _ => exact ⟨w, (Host.Outcome.next.inj h).symm⟩
  next => cases h

/-- Every step has one of these effects. -/
theorem step_effect {s t : State} (h : step s = .next t) : StepEffect s t := by
  cases hp : s.pending with
  | nil =>
    rw [step_of_idle hp] at h
    obtain rfl := Host.Outcome.next.inj h
    have hs : s.setPending s.pending.tail = s := by rw [hp, List.tail_nil, ← hp]; rfl
    exact .turn (.inl hp) (by rw [hs])
  | cons e rest =>
    have hstored : s.SameStored (s.setPending rest) := ⟨rfl, rfl, rfl, rfl, rfl, rfl, rfl, rfl⟩
    rw [step_of_pending hp] at h
    cases e with
    | command w =>
      rcases submit_cases w (s.setPending rest) with ⟨-, hw⟩ | ⟨c, hs, -, hw⟩ | ⟨i, hs, hd, hw⟩ <;>
        simp only [deliver, hw] at h
      · obtain rfl := Host.Outcome.next.inj h
        exact .quiet _ rest hp nofun hstored rfl fun _ => rfl
      · exact .fault w rest c hp hs (Host.Outcome.next.inj h).symm
      · exact .command w i rest hp hs hd (exec_effect h)
    | read a =>
      obtain ⟨word, rfl⟩ := hostRead_eq_next h
      exact .quiet _ rest hp nofun hstored rfl fun _ => rfl
    | exportState ts =>
      obtain rfl := Host.Outcome.next.inj h
      exact .quiet _ rest hp nofun hstored rfl fun _ => rfl
    | tick => exact .turn (.inr ⟨rest, hp⟩) (by rw [hp]; exact (Host.Outcome.next.inj h).symm)
    | timebase ms =>
      obtain rfl := Host.Outcome.next.inj h
      rcases timebaseEvent_cases ms (s.setPending rest) with ht | ⟨-, hf, ht⟩ <;> rw [ht]
      · exact .quiet _ rest hp nofun hstored rfl fun _ => rfl
      · refine .quiet _ rest hp nofun hstored rfl fun hs => ?_
        cases hs.symm.trans hf
    | powerOn => exact .powerOn rest hp (Host.Outcome.next.inj h).symm

/-- A step takes the first pending event and adds none (20_memory.md R49). -/
theorem StepEffect.pending {s t : State} (h : StepEffect s t) : t.pending = s.pending.tail := by
  cases h with
  | turn hp ht =>
    obtain ⟨-, -, -, -, -, -, -, -, hpending⟩ := schedulerTurn_sameControl (s.setPending s.pending.tail)
    rw [ht]
    exact hpending
  | fault w rest c hp hs ht => rw [ht, hp]; rfl
  | command w i rest hp hs hd effect => rw [effect.pending, hp]; rfl
  | quiet e rest hp he frame hpending helapsed => rw [hpending, hp]; rfl
  | powerOn rest hp ht => rw [ht, hp]; rfl

end Sys2Proof.Machine
end

section
/-! PROOFS. When the block stands still: without RUNNING (43_scheduler.md R157, 60_exceptions.md R204), in Manual mode
(R158) and while faulted (R193); and which command or tick each register's change comes from (10_state.md R20). -/

namespace Sys2Proof.Machine

/-! ### No TICK -/

/-- Without RUNNING no TICK is enabled (43_scheduler.md R150). -/
theorem tickEnabled_of_stopped {s : State} (h : s.running = false) : s.tickEnabled = false := by
  simp [State.tickEnabled, h]

/-- In Manual mode no TICK is enabled (43_scheduler.md R150). -/
theorem tickEnabled_of_manual {s : State} (h : s.mode = .manual) : s.tickEnabled = false := by
  simp [State.tickEnabled, h]

/-- While faulted no TICK is enabled (43_scheduler.md R150). -/
theorem tickEnabled_of_faulted {s : State} (h : s.faulted = true) : s.tickEnabled = false := by
  simp [State.tickEnabled, h]

/-- The scheduler's turn does nothing where no TICK is enabled (43_scheduler.md R151). -/
theorem schedulerTurn_of_not_enabled {s : State} (h : s.tickEnabled = false) : schedulerTurn s = s :=
  schedulerTurn_of_not_due (tickDue_of_not_enabled h)

/-- An idle step keeps the whole state where no TICK is enabled (log 3). -/
theorem step_of_idle_not_enabled {s : State} (h : s.tickEnabled = false) (hp : s.pending = []) : step s = .next s := by
  rw [step_of_idle hp, schedulerTurn_of_not_enabled h]

/-- A tick is discarded where no TICK is enabled (43_scheduler.md R151). -/
theorem step_of_tick_not_enabled {s : State} {rest : List Event} (h : s.tickEnabled = false)
    (hp : s.pending = .tick :: rest) : step s = .next { s with pending := rest } := by
  have hturn : schedulerTurn (s.setPending rest) = s.setPending rest := schedulerTurn_of_not_enabled h
  rw [step_of_tick hp, hturn]
  rfl

/-! ### What clears RUNNING, and what sets it -/

/-- Every operand of SELMODE in its domain is a mode's encoding (10_state.md R21, 30_encoding.md R66). -/
theorem exists_mode_code : ∀ m : BitVec 2, m.toNat ≤ 2 → ∃ mode : Mode, mode.code = m
  | 0, _ => ⟨.animation, rfl⟩
  | 1, _ => ⟨.manual, rfl⟩
  | 2, _ => ⟨.counter, rfl⟩
  | 3, h => absurd h (by decide)

/-- In an unfaulted block RESET has its effect in every mode (41_mode_control.md R103, R104). -/
theorem exec_reset_eq {s : State} (hs : s.faulted = false) : exec .reset s = .next (resetRegister s) :=
  congrArg Host.Outcome.next (runCommand_of_legal .reset () (fun _ => resetRegister) hs rfl)

/-- In an unfaulted block SETRUN has its effect in Animation and Counter (43_scheduler.md R152, 41_mode_control.md R104). -/
theorem exec_setrun_eq {s : State} (r : Bool) (hs : s.faulted = false) (hm : s.mode ≠ .manual) :
    exec (.setrun r) s = .next (setRunFlag r s) := by
  have hlegal : legal (.setrun r) s.mode = true := by
    cases h : s.mode with
    | manual => exact absurd h hm
    | animation | counter => rfl
  exact congrArg Host.Outcome.next (runCommand_of_legal _ r setRunFlag hs hlegal)

/-- The only command that sets RUNNING is SETRUN 1 outside Manual mode (43_scheduler.md R152, R157). -/
theorem CommandEffect.sets_running {i : Instr} {s t : State} (h : CommandEffect i s t) (hs : s.running = false)
    (ht : t.running = true) : i = .setrun true ∧ s.mode ≠ .manual := by
  cases h with
  | ignored => cases hs.symm.trans ht
  | fault c => cases hs.symm.trans ht
  | register hi hlegal frame =>
    obtain ⟨-, hrunning, -⟩ := frame
    cases hs.symm.trans (hrunning.symm.trans ht)
  | stop hi frame =>
    obtain ⟨hrunning, -⟩ := frame
    cases hrunning.symm.trans ht
  | setrun r hi hmode =>
    rw [setRunFlag_eq] at ht
    obtain rfl : r = true := ht
    exact ⟨hi, hmode⟩
  | setivl n hi hn => cases hs.symm.trans ht

/-- A step that sets RUNNING has executed the word of SETRUN 1 outside Manual mode (43_scheduler.md R157). -/
theorem step_sets_running {s t : State} (h : step s = .next t) (hs : s.running = false) (ht : t.running = true) :
    s.faulted = false ∧ s.mode ≠ .manual ∧ ∃ rest, s.pending = .command 0x8001 :: rest := by
  cases step_effect h with
  | turn hp hturn =>
    have hstill : schedulerTurn (s.setPending s.pending.tail) = s.setPending s.pending.tail :=
      schedulerTurn_of_not_enabled (tickEnabled_of_stopped hs)
    rw [hturn, hstill] at ht
    cases hs.symm.trans ht
  | fault w rest c hp hf hfault =>
    rw [hfault] at ht
    cases hs.symm.trans ht
  | command w i rest hp hf hd effect =>
    obtain ⟨rfl, hmode⟩ := effect.sets_running hs ht
    obtain rfl : 0x8001 = w := encode_of_decode hd
    exact ⟨hf, hmode, rest, hp⟩
  | quiet e rest hp he frame hpending helapsed =>
    obtain ⟨-, -, -, hrunning, -⟩ := frame
    cases hs.symm.trans (hrunning.symm.trans ht)
  | powerOn rest hp hreset =>
    rw [hreset] at ht
    cases ht

/-- A run of k + 1 steps is a step and the run of k steps from there. -/
theorem run_succ_of_step {k : Nat} {s u : State} (h : step s = .next u) :
    Host.Core.run core (k + 1) s = Host.Core.run core k u := by
  have hstep : core.step s = .next u := h
  simp only [Host.Core.run, hstep]

/-- A run of k + 1 steps that answers a next state has taken its first step. -/
theorem run_succ_eq_next {k : Nat} {s t : State} (h : Host.Core.run core (k + 1) s = .next t) :
    ∃ u, step s = .next u ∧ Host.Core.run core k u = .next t := by
  cases hs : step s with
  | next u => exact ⟨u, rfl, (run_succ_of_step hs).symm.trans h⟩
  | fault f => nomatch f
  | refused r =>
    have hstep : core.step s = .refused r := hs
    simp [Host.Core.run, hstep] at h

/-- Over any run in which no SETRUN 1 is pending a stopped scheduler stays stopped (43_scheduler.md R157). -/
theorem run_keeps_stopped (k : Nat) : ∀ {s t : State}, s.running = false → Event.command 0x8001 ∉ s.pending →
    Host.Core.run core k s = .next t → t.running = false := by
  induction k with
  | zero =>
    intro s t hs _ h
    cases h
    exact hs
  | succ k ih =>
    intro s t hs hno h
    obtain ⟨u, hstep, hrun⟩ := run_succ_eq_next h
    have hpending : u.pending = s.pending.tail := (step_effect hstep).pending
    refine ih (s := u) ?_ (fun hmem => hno (List.mem_of_mem_tail (hpending ▸ hmem))) hrun
    by_contra hu
    obtain ⟨-, -, rest, hp⟩ := step_sets_running hstep hs (by simpa using hu)
    exact hno (by simp [hp])

/-- Settles O33: the three commands by their effects, runs by `run_keeps_stopped`, and no TICK is enabled without RUNNING. -/
theorem stopBeforeAnyFurtherStep : Obligations.StopBeforeAnyFurtherStep := by
  refine ⟨fun s t i hs hw hi h => ?clears, fun k s t hs hno h => ?run, fun s t hs h ht => step_sets_running h hs ht,
    fun s rest hs => step_of_tick_not_enabled (tickEnabled_of_stopped hs),
    fun s hs => step_of_idle_not_enabled (tickEnabled_of_stopped hs)⟩
  case clears =>
    rcases hi with ⟨rfl, hm⟩ | rfl | ⟨m, rfl⟩
    · rw [exec_setrun_eq false hs hm, setRunFlag_eq] at h
      cases h
      rfl
    · rw [exec_reset_eq hs] at h
      cases h
      exact (resetRegister_stopped s).1
    · obtain ⟨mode, rfl⟩ := exists_mode_code m (of_decide_eq_true hw)
      rw [exec_selmode_code hs] at h
      cases h
      exact (selectMode_stopped mode s).1
  case run =>
    have ht : t.running = false := run_keeps_stopped k hs hno h
    exact ⟨ht, tickEnabled_of_stopped ht⟩

/-- Settles O37: without RUNNING no TICK is enabled. -/
theorem idleBlockKeepsItsState : Obligations.IdleBlockKeepsItsState :=
  fun _ hp hs => step_of_idle_not_enabled (tickEnabled_of_stopped hs) hp

/-! ### The faulted block -/

/-- No step but power-on reset changes a register of a faulted block (60_exceptions.md R193). -/
theorem step_keeps_faulted {s t : State} (hs : s.faulted = true) (h : step s = .next t)
    (hp : ∀ rest, s.pending ≠ .powerOn :: rest) : t.faulted = true ∧ s.SameRegisters t := by
  cases step_effect h with
  | turn hturn ht =>
    have hstill : schedulerTurn (s.setPending s.pending.tail) = s.setPending s.pending.tail :=
      schedulerTurn_of_not_enabled (tickEnabled_of_faulted hs)
    rw [ht, hstill]
    exact ⟨hs, rfl, rfl, rfl, rfl, rfl, rfl, rfl, rfl, rfl⟩
  | fault w rest c hw hf ht => cases hs.symm.trans hf
  | command w i rest hw hf hd effect => cases hs.symm.trans hf
  | quiet e rest he hne frame hpending helapsed =>
    obtain ⟨hmode, hpattern, hvalue, hrunning, hinterval, hhist, hstatus, hfcmd⟩ := frame
    have ht : t.faulted = s.faulted := congrArg (BitVec.getLsbD · 15) hstatus
    exact ⟨ht.trans hs, hmode, hpattern, hvalue, hrunning, hinterval, hhist, hstatus, hfcmd, helapsed hs⟩
  | powerOn rest hreset ht => exact absurd hreset (hp rest)

/-- The power-on state is not faulted (10_state.md R33). -/
theorem powerOn_faulted (policy : RecordPolicy) (timing : Timing) : (State.powerOn policy timing).faulted = false := by
  simp [State.faulted, State.powerOn]

/-- Settles O16: the tick and the idle turn by the disabled TICK, the command by R194's first check, the read by O47. -/
theorem faultedBlockIsFrozen : Obligations.FaultedBlockIsFrozen := by
  intro s hs
  refine ⟨step_of_idle_not_enabled (tickEnabled_of_faulted hs), fun w rest => step_of_command_faulted hs,
    fun rest => step_of_tick_not_enabled (tickEnabled_of_faulted hs), fun a word rest hp hread => ?read,
    fun e rest t hp he h => ?frozen, fun rest t hp h => ?powerOn⟩
  case read =>
    obtain ⟨t, hstep, rfl, -⟩ := readsHaveNoSideEffect s a word rest hp hread
    exact hstep
  case frozen =>
    refine step_keeps_faulted hs h fun rest' hp' => he ?_
    exact (List.cons.inj (hp.symm.trans hp')).1
  case powerOn =>
    rw [step_of_pending hp] at h
    cases h
    exact powerOn_faulted s.policy s.timing

/-! ### Manual mode -/

/-- The register operations legal in Manual mode are TOGGLE and LOADPAT (41_mode_control.md R104). -/
theorem registerOp_of_legal_manual {i : Instr} (hi : RegisterOp i) (hlegal : legal i .manual = true) :
    (∃ x, i = .toggle x) ∨ ∃ p, i = .loadpat p := by
  rcases hi with ⟨x, rfl⟩ | ⟨p, rfl⟩ | rfl | ⟨dir, rfl⟩ | ⟨d, rfl⟩
  · exact .inl ⟨x, rfl⟩
  · exact .inr ⟨p, rfl⟩
  · cases hlegal
  · cases hlegal
  · cases hlegal

/-- A command that changes PATTERN, VALUE or the history is a register operation its mode allows, SELMODE or RESET
(10_state.md R20). -/
theorem CommandEffect.changes_register {i : Instr} {s t : State} (h : CommandEffect i s t)
    (hne : t.pattern ≠ s.pattern ∨ t.value ≠ s.value ∨ t.hist ≠ s.hist) :
    (RegisterOp i ∧ legal i s.mode = true) ∨ (∃ m, i = .selmode m) ∨ i = .reset := by
  cases h with
  | ignored => simp at hne
  | fault c => simp [raiseFault] at hne
  | register hi hlegal frame => exact .inl ⟨hi, hlegal⟩
  | stop hi frame => exact .inr hi
  | setrun r hi hmode => simp [setRunFlag_eq] at hne
  | setivl n hi hn => simp at hne

/-- A step that changes PATTERN, VALUE or the history is a TICK that is due, power-on reset or a command that may change
them (10_state.md R20). -/
theorem step_changes_register {s t : State} (h : step s = .next t)
    (hne : t.pattern ≠ s.pattern ∨ t.value ≠ s.value ∨ t.hist ≠ s.hist) :
    (s.tickEnabled = true ∧ (s.pending = [] ∨ ∃ rest, s.pending = .tick :: rest)) ∨
    (∃ w i rest, s.pending = .command w :: rest ∧ decode w = .ok i ∧
      ((RegisterOp i ∧ legal i s.mode = true) ∨ (∃ m, i = .selmode m) ∨ i = .reset)) ∨
    ∃ rest, s.pending = .powerOn :: rest := by
  cases step_effect h with
  | turn hp ht =>
    refine .inl ⟨by_contra fun hoff => ?_, hp⟩
    have hstill : schedulerTurn (s.setPending s.pending.tail) = s.setPending s.pending.tail :=
      schedulerTurn_of_not_enabled (by simpa using hoff)
    simp [ht, hstill] at hne
  | fault w rest c hp hs ht => simp [ht, raiseFault] at hne
  | command w i rest hp hs hd effect => exact .inr (.inl ⟨w, i, rest, hp, hd, effect.changes_register hne⟩)
  | quiet e rest hp he frame hpending helapsed =>
    obtain ⟨-, hpattern, hvalue, -, -, hhist, -, -⟩ := frame
    simp [hpattern, hvalue, hhist] at hne
  | powerOn rest hp ht => exact .inr (.inr ⟨rest, hp⟩)

/-- Settles O34: no TICK is enabled in Manual mode, and of the register operations it allows TOGGLE and LOADPAT. -/
theorem manualHasNoTimedEvolution : Obligations.ManualHasNoTimedEvolution := by
  intro s t hm _ h
  refine ⟨fun hp => ?idle, fun e rest hp he hne => ?event⟩
  case idle =>
    rw [step_of_idle_not_enabled (tickEnabled_of_manual hm) hp] at h
    exact (Host.Outcome.next.inj h).symm
  case event =>
    have hne' : t.pattern ≠ s.pattern ∨ t.value ≠ s.value ∨ t.hist ≠ s.hist := hne.imp_right .inl
    rcases step_changes_register h hne' with ⟨htick, -⟩ | ⟨w, i, rest', hp', hd, hi⟩ | ⟨rest', hp'⟩
    · cases (tickEnabled_of_manual hm).symm.trans htick
    · refine ⟨w, i, (List.cons.inj (hp.symm.trans hp')).1, hd, ?_⟩
      rcases hi with ⟨hop, hlegal⟩ | hmode | hreset
      · exact (registerOp_of_legal_manual hop (hm ▸ hlegal)).imp_right .inl
      · exact .inr (.inr (.inr hmode))
      · exact .inr (.inr (.inl hreset))
    · exact absurd (List.cons.inj (hp.symm.trans hp')).1 he

/-! ### The writers of each register -/

theorem CommandEffect.changes_running {i : Instr} {s t : State} (h : CommandEffect i s t) (hne : t.running ≠ s.running) :
    (∃ r, i = .setrun r) ∨ (∃ m, i = .selmode m) ∨ i = .reset := by
  cases h with
  | ignored => exact absurd rfl hne
  | fault c => exact absurd rfl hne
  | register hi hlegal frame =>
    obtain ⟨-, hrunning, -⟩ := frame
    exact absurd hrunning hne
  | stop hi frame => exact .inr hi
  | setrun r hi hmode => exact .inl ⟨r, hi⟩
  | setivl n hi hn => exact absurd rfl hne

theorem CommandEffect.changes_interval {i : Instr} {s t : State} (h : CommandEffect i s t)
    (hne : t.interval ≠ s.interval) : ∃ n, i = .setivl n := by
  cases h with
  | ignored => exact absurd rfl hne
  | fault c => exact absurd rfl hne
  | register hi hlegal frame =>
    obtain ⟨-, -, hinterval, -⟩ := frame
    exact absurd hinterval hne
  | stop hi frame =>
    obtain ⟨-, hinterval, -⟩ := frame
    exact absurd hinterval hne
  | setrun r hi hmode => simp [setRunFlag_eq] at hne
  | setivl n hi hn => exact ⟨n, hi⟩

/-- A command writes STATUS and FCMD by fault entry or not at all (60_exceptions.md R192). -/
theorem CommandEffect.fault_or_keeps {i : Instr} {s t : State} (h : CommandEffect i s t) :
    (∃ c, t = raiseFault c (encode i) s) ∨ (t.status = s.status ∧ t.fcmd = s.fcmd) := by
  cases h with
  | ignored => exact .inr ⟨rfl, rfl⟩
  | fault c => exact .inl ⟨c, rfl⟩
  | register hi hlegal frame =>
    obtain ⟨-, -, -, hstatus, hfcmd, -⟩ := frame
    exact .inr ⟨hstatus, hfcmd⟩
  | stop hi frame =>
    obtain ⟨-, -, hstatus, hfcmd, -⟩ := frame
    exact .inr ⟨hstatus, hfcmd⟩
  | setrun r hi hmode => exact .inr (by simp [setRunFlag_eq])
  | setivl n hi hn => exact .inr ⟨rfl, rfl⟩

/-- Settles O40: by what the step can be, and for a command by the registers its effect may write. -/
theorem registersHaveOnlyTheirWriters : Obligations.RegistersHaveOnlyTheirWriters := by
  intro s t h hpower runs tickTurn
  have hregister : t.pattern ≠ s.pattern ∨ t.value ≠ s.value ∨ t.hist ≠ s.hist →
      tickTurn ∨ runs fun i => (∃ m, i = .selmode m) ∨ i = .reset ∨ RegisterOp i := fun hne => by
    rcases step_changes_register h hne with ⟨-, hp⟩ | ⟨w, i, rest, hp, hd, hi⟩ | ⟨rest, hp⟩
    · exact .inl hp
    · exact .inr ⟨w, i, rest, hp, hd, hi.elim (fun ⟨hop, _⟩ => .inr (.inr hop)) (Or.imp_right .inl)⟩
    · exact absurd hp (hpower rest)
  cases step_effect h with
  | turn hp ht =>
    obtain ⟨-, hrunning, hinterval, hstatus, hfcmd, -⟩ := schedulerTurn_sameControl (s.setPending s.pending.tail)
    subst ht
    exact ⟨absurd hrunning, absurd hinterval, hregister, fun hne => hne.elim (absurd hstatus) (absurd hfcmd)⟩
  | fault w rest c hp hs ht =>
    subst ht
    exact ⟨absurd rfl, absurd rfl, hregister, fun _ => ⟨hs, raiseFault_faulted c w _, w, rest, hp, rfl⟩⟩
  | command w i rest hp hs hd effect =>
    refine ⟨fun hne => ⟨w, i, rest, hp, hd, effect.changes_running hne⟩,
      fun hne => ⟨w, i, rest, hp, hd, effect.changes_interval hne⟩, hregister, fun hne => ?_⟩
    rcases effect.fault_or_keeps with ⟨c, rfl⟩ | ⟨hstatus, hfcmd⟩
    · exact ⟨hs, raiseFault_faulted c _ _, w, rest, hp, encode_of_decode hd⟩
    · exact hne.elim (absurd hstatus) (absurd hfcmd)
  | quiet e rest hp he frame hpending helapsed =>
    obtain ⟨-, -, -, hrunning, hinterval, -, hstatus, hfcmd⟩ := frame
    exact ⟨absurd hrunning, absurd hinterval, hregister, fun hne => hne.elim (absurd hstatus) (absurd hfcmd)⟩
  | powerOn rest hp ht => exact absurd hp (hpower rest)

end Sys2Proof.Machine
end

section
/-! PROOFS. The control, history and fault invariants (10_state.md R25 to R29, 44_history.md R175): each holds of the
power-on state and is closed under every part of a step. -/

namespace Sys2Proof.Machine

/-! ### The control invariant -/

theorem powerOn_controlInv (policy : RecordPolicy) (timing : Timing) : (State.powerOn policy timing).ControlInv :=
  ⟨fun _ => rfl, show 50 ≤ (250#10).toNat ∧ (250#10).toNat ≤ 1000 by decide⟩

/-- The control invariant speaks of MODE, RUNNING and INTERVAL only (10_state.md R25, R26). -/
theorem controlInv_of_sameControl {s t : State} (hs : s.ControlInv) (h : s.SameControl t) : t.ControlInv := by
  obtain ⟨hmode, hrunning, hinterval, -⟩ := h
  rwa [State.ControlInv, hmode, hrunning, hinterval]

/-- No command leaves the control invariant: SETRUN is illegal in Manual mode, and SETIVL checks its operand. -/
theorem exec_keeps_controlInv {i : Instr} {s t : State} (hs : s.ControlInv) (h : exec i s = .next t) : t.ControlInv := by
  cases exec_effect h with
  | ignored => exact hs
  | fault c => exact hs
  | register hi hlegal frame => exact controlInv_of_sameControl hs frame
  | stop hi frame =>
    obtain ⟨hrunning, hinterval, -⟩ := frame
    exact ⟨fun _ => hrunning, hinterval ▸ hs.2⟩
  | setrun r hi hmode =>
    rw [setRunFlag_eq]
    exact ⟨fun hm => absurd hm hmode, hs.2⟩
  | setivl n hi hn => exact ⟨hs.1, hn⟩

theorem controlInv_stepClosed : StepClosed State.ControlInv where
  setPending _ _ hs := hs
  emit _ _ hs := hs
  setElapsed _ _ hs := hs
  raiseFault _ _ _ hs := hs
  powerOn := powerOn_controlInv
  stepRegister s hs := controlInv_of_sameControl hs (stepRegister_sameControl s)
  exec _ _ _ := exec_keeps_controlInv

/-- Settles O5: the control invariant is closed under every part of a step. -/
theorem stepKeepsControlInvariant : Obligations.StepKeepsControlInvariant :=
  fun _ _ => controlInv_stepClosed.next

/-! ### The history invariant -/

theorem powerOn_historyInv (policy : RecordPolicy) (timing : Timing) : (State.powerOn policy timing).HistoryInv :=
  ⟨Nat.zero_le 40, nofun⟩

theorem historyInv_of_hist_eq {s t : State} (hs : s.HistoryInv) (h : t.hist = s.hist) : t.HistoryInv := by
  rwa [State.HistoryInv, State.hlen, h]

/-- A sample is at most 1270 tenths: a digit's on the Counter scale, any value's otherwise (44_history.md R170). -/
theorem sample_le {v : Value} {m : Mode} (hv : m = .counter → v.toNat ≤ 9) : (sample v.toNat m).toNat ≤ 1270 := by
  by_cases hm : m = .counter
  · have hdigit := hv hm
    rw [hm, sample_counter_toNat hdigit]
    omega
  · rw [sample_binary_toNat hm (by omega)]
    omega

/-- Recording keeps the history invariant where VALUE is a digit in Counter mode (44_history.md R171). -/
theorem afterWrite_historyInv {u : State} (hu : u.HistoryInv) (hv : u.mode = .counter → u.value.toNat ≤ 9)
    (k : WriteKind) (oldP : Pattern) (oldV : Value) : (afterWrite k oldP oldV u).HistoryInv := by
  obtain ⟨hlen, hle⟩ := hu
  have hhist := afterWrite_hist k oldP oldV u
  split at hhist
  · refine ⟨by rw [State.hlen, hhist]; exact List.length_take_le _ _, fun x hx => ?_⟩
    rw [hhist] at hx
    rcases List.mem_cons.1 (List.mem_of_mem_take hx) with rfl | hold
    · exact sample_le hv
    · exact hle x hold
  · exact historyInv_of_hist_eq ⟨hlen, hle⟩ hhist

/-- A register write keeps the history invariant where what it writes to VALUE in Counter mode is a digit. -/
theorem mutate_historyInv {s : State} (hs : s.HistoryInv) (p : Pattern) {v : Nat} (hv : s.mode = .counter → v ≤ 9) :
    (mutate p v s).HistoryInv :=
  afterWrite_historyInv (u := s.setRegister p v) hs (fun hm => (Nat.mod_le v 128).trans (hv hm)) _ _ _

theorem selectMode_historyInv {s : State} (m : Mode) (hs : s.HistoryInv) : (selectMode m s).HistoryInv := by
  unfold selectMode
  refine afterWrite_historyInv ?_ (fun _ => ?_) _ _ _
  · exact hs
  · simp

/-- In Counter mode STEP and TICK write a digit (42_register_ops.md R125). -/
theorem stepFn_value_le_nine {s : State} (hm : s.mode = .counter) : (stepFn s).value.toNat ≤ 9 := by
  have hvalue : (stepFn s).value = BitVec.ofNat 7 (digitMod10 (s.value.toNat + 1)).val := by simp [stepFn, hm]
  rw [hvalue]
  exact (Nat.mod_le _ 128).trans (Nat.le_of_lt_succ (digitMod10 _).isLt)

theorem stepRegister_historyInv {s : State} (hs : s.HistoryInv) : (stepRegister s).HistoryInv :=
  afterWrite_historyInv (historyInv_of_hist_eq hs (stepFn_hist s))
    (fun hm => stepFn_value_le_nine ((stepFn_mode s).symm.trans hm)) _ _ _

/-- No command leaves the history invariant: what a command legal in Counter mode records is a digit. -/
theorem exec_keeps_historyInv {i : Instr} {s t : State} (hs : s.HistoryInv) (h : exec i s = .next t) : t.HistoryInv := by
  have hfault : ∀ c, (raiseFault c (encode i) s).HistoryInv := fun _ => hs
  cases i <;> cases h <;> refine runCommand_keeps hs hfault fun a _ hlegal => ?_
  case selmode => exact selectMode_historyInv a hs
  case toggle => exact mutate_historyInv hs _ fun hm => by simp [legal, hm] at hlegal
  case loadpat => exact mutate_historyInv hs _ fun hm => by simp [legal, hm] at hlegal
  case step => exact stepRegister_historyInv hs
  case nav => exact mutate_historyInv hs _ fun _ => Nat.le_of_lt_succ (digitMod10 _).isLt
  case reset => exact mutate_historyInv (s := s.setRunning false) hs _ fun _ => Nat.zero_le 9
  case seldig => exact mutate_historyInv hs _ fun _ => Nat.le_of_lt_succ a.isLt
  case setrun => exact historyInv_of_hist_eq hs (setRunFlag_hist a s)
  case setivl => exact hs

theorem historyInv_stepClosed : StepClosed State.HistoryInv where
  setPending _ _ hs := hs
  emit _ _ hs := hs
  setElapsed _ _ hs := hs
  raiseFault _ _ _ hs := hs
  powerOn := powerOn_historyInv
  stepRegister _ := stepRegister_historyInv
  exec _ _ _ := exec_keeps_historyInv

/-- Settles O6: the history invariant is closed under every part of a step. -/
theorem stepKeepsHistoryInvariant : Obligations.StepKeepsHistoryInvariant :=
  fun _ _ => historyInv_stepClosed.next

/-! ### The fault invariant -/

theorem powerOn_faultInv (policy : RecordPolicy) (timing : Timing) : (State.powerOn policy timing).FaultInv :=
  ⟨show (0x0000#16) &&& 0x7FF0 = 0 by decide, fun _ => ⟨rfl, rfl⟩,
    fun hf => nomatch (powerOn_faulted policy timing).symm.trans hf⟩

/-- The fault invariant speaks of STATUS and FCMD only (10_state.md R28, R29). -/
theorem faultInv_of_eq {s t : State} (hs : s.FaultInv) (hstatus : t.status = s.status) (hfcmd : t.fcmd = s.fcmd) :
    t.FaultInv := by
  rwa [State.FaultInv, State.faulted, State.cause, hstatus, hfcmd]

/-- Fault entry establishes the fault invariant: every cause has one of the codes 1 to 6 (60_exceptions.md R191, R192). -/
theorem raiseFault_faultInv (c : Cause) (w : CmdWord) (s : State) : (raiseFault c w s).FaultInv := by
  have hreserved : faultStatus c &&& 0x7FF0 = 0 := by cases c <;> rfl
  have hcode : 1 ≤ c.code.toNat ∧ c.code.toNat ≤ 6 := by cases c <;> decide
  refine ⟨hreserved, fun hf => ?_, fun _ => ?_⟩
  · cases (raiseFault_faulted c w s).symm.trans hf
  · rwa [raiseFault_cause]

theorem exec_keeps_faultInv {i : Instr} {s t : State} (hs : s.FaultInv) (h : exec i s = .next t) : t.FaultInv := by
  rcases (exec_effect h).fault_or_keeps with ⟨c, rfl⟩ | ⟨hstatus, hfcmd⟩
  · exact raiseFault_faultInv c _ s
  · exact faultInv_of_eq hs hstatus hfcmd

theorem stepRegister_faultInv {s : State} (hs : s.FaultInv) : (stepRegister s).FaultInv := by
  obtain ⟨-, -, -, hstatus, hfcmd, -⟩ := stepRegister_sameControl s
  exact faultInv_of_eq hs hstatus hfcmd

theorem faultInv_stepClosed : StepClosed State.FaultInv where
  setPending _ _ hs := hs
  emit _ _ hs := hs
  setElapsed _ _ hs := hs
  raiseFault s c w _ := raiseFault_faultInv c w s
  powerOn := powerOn_faultInv
  stepRegister _ := stepRegister_faultInv
  exec _ _ _ := exec_keeps_faultInv

/-- Settles O7: the fault invariant is closed under every part of a step. -/
theorem stepKeepsFaultInvariant : Obligations.StepKeepsFaultInvariant :=
  fun _ _ => faultInv_stepClosed.next

/-! ### Power-on reset -/

/-- Settles O3: one lemma for each invariant of the power-on state, of which State.reset is one. -/
theorem invariantsHoldAtPowerOn : Obligations.InvariantsHoldAtPowerOn := by
  have hinv (policy : RecordPolicy) (timing : Timing) : (State.powerOn policy timing).Inv :=
    ⟨powerOn_modeInv policy timing, powerOn_controlInv policy timing, powerOn_historyInv policy timing,
      powerOn_faultInv policy timing⟩
  exact ⟨hinv _ _, hinv⟩

/-- Settles O2: the event is delivered to the state without it. -/
theorem powerOnEventRestoresReset : Obligations.PowerOnEventRestoresReset := by
  intro s rest hp
  rw [step_of_pending hp]
  exact congrArg Host.Outcome.next (powerOnReset_eq (s.setPending rest))

end Sys2Proof.Machine
end

section
/-! PROOFS. What each command does in a mode that allows it: its effect, what it records under each RECORD_POLICY, and its
frame (41_mode_control.md, 42_register_ops.md, 43_scheduler.md R152, R153, 44_history.md R172). -/

namespace Sys2Proof.Machine

/-! ### What is recorded -/

/-- A register operation records under PerMutation always, under OnRegisterChange where the pair changed (44_history.md
R172). -/
theorem recordFires_op_iff (oldP : Pattern) (oldV : Value) (s : State) :
    recordFires .op oldP oldV s = true ↔ s.policy = .perMutation ∨ s.pattern ≠ oldP ∨ s.value ≠ oldV := by
  cases h : s.policy <;> simp [recordFires, h]

/-- A mode transition records under OnRegisterChange alone, where the pair changed (44_history.md R172). -/
theorem recordFires_transition_iff (oldP : Pattern) (oldV : Value) (s : State) :
    recordFires .transition oldP oldV s = true ↔ s.policy = .onRegisterChange ∧ (s.pattern ≠ oldP ∨ s.value ≠ oldV) := by
  cases h : s.policy <;> simp [recordFires, h]

/-- After an operation's write `afterWrite` has recorded one sample and raised one Mutation event, or nothing. -/
theorem afterWrite_op_recording {s u : State} (hhist : u.hist = s.hist) (hout : u.out = s.out) (oldP : Pattern)
    (oldV : Value) :
    if u.policy = .perMutation ∨ u.pattern ≠ oldP ∨ u.value ≠ oldV
      then s.Recorded (afterWrite .op oldP oldV u) (sample u.value.toNat u.mode)
      else s.Unrecorded (afterWrite .op oldP oldV u) := by
  simp only [← recordFires_op_iff, State.Recorded, State.Unrecorded, afterWrite_hist, afterWrite_out, afterWrite_value,
    hhist, hout]
  split <;> exact ⟨rfl, rfl⟩

/-- A register write's record, by the pair it leaves (42_register_ops.md R120, 44_history.md R172). -/
theorem mutate_recording (p : Pattern) (v : Nat) (s : State) :
    if s.policy = .perMutation ∨ (mutate p v s).pattern ≠ s.pattern ∨ (mutate p v s).value ≠ s.value
      then s.Recorded (mutate p v s) (sample (mutate p v s).value.toNat s.mode) else s.Unrecorded (mutate p v s) := by
  rw [mutate_pattern, mutate_value]
  exact afterWrite_op_recording (u := s.setRegister p v) rfl rfl _ _

/-- A write that changes the register pair takes `afterWrite`'s recording branch under both policies. -/
theorem mutate_of_changed {p : Pattern} {v : Nat} {s : State} (h : p ≠ s.pattern ∨ BitVec.ofNat 7 v ≠ s.value) :
    mutate p v s = (record (BitVec.ofNat 7 v).toNat s.mode (s.setRegister p v)).cue .mutation :=
  if_pos ((recordFires_op_iff _ _ _).2 (.inr h))

/-- So it leaves one sample and one Mutation event (44_history.md R171, R172). -/
theorem mutate_recorded {p : Pattern} {v : Nat} {s : State} (h : p ≠ s.pattern ∨ BitVec.ofNat 7 v ≠ s.value) :
    s.Recorded (mutate p v s) (sample (mutate p v s).value.toNat s.mode) := by
  rw [mutate_of_changed h]
  exact ⟨rfl, rfl⟩

/-! ### The register a command leaves -/

/-- A write of a pattern with its reading leaves the reading in VALUE (40_digit_table.md R83). -/
theorem mutate_toValue_value (p : Pattern) (s : State) : (mutate p (toValue p) s).value.toNat = toValue p := by
  rw [mutate_value, ofNat_toValue, toValue_eq_toNat]

/-- VALUE holds a digit whole. -/
theorem toNat_ofNat_digit (d : Fin 10) : (BitVec.ofNat 7 d.val).toNat = d.val :=
  Nat.mod_eq_of_lt (by omega)

/-- In Animation mode STEP writes the next 7-bit number and its pattern (42_register_ops.md R125). -/
theorem stepRegister_of_animation {s : State} (hm : s.mode = .animation) :
    stepRegister s = mutate (toPattern ((s.value.toNat + 1) % 128)) ((s.value.toNat + 1) % 128) s := by
  simp [stepRegister, mutate, stepFn, hm]

/-- In Counter mode STEP writes the next digit and its pattern (42_register_ops.md R125). -/
theorem stepRegister_of_counter {s : State} (hm : s.mode = .counter) :
    stepRegister s = mutate (lut (digitMod10 (s.value.toNat + 1))) (digitMod10 (s.value.toNat + 1)).val s := by
  simp [stepRegister, mutate, stepFn, hm]

/-- A VALUE other than the one before is a change of VALUE. -/
theorem ofNat_ne_value {v : Nat} {x : Value} (h : v % 128 ≠ x.toNat) : BitVec.ofNat 7 v ≠ x :=
  fun he => h (congrArg BitVec.toNat he)

/-- Adding a number that 10 does not divide moves the digit, and a VALUE above 9 becomes one (42_register_ops.md R125,
R126). -/
theorem digitMod10_add_ne_value {k : Nat} (hk : k % 10 ≠ 0) (x : Value) :
    BitVec.ofNat 7 (digitMod10 (x.toNat + k)).val ≠ x := by
  refine ofNat_ne_value ?_
  rw [digitMod10_val]
  omega

/-- In Animation mode STEP changes VALUE (42_register_ops.md R125). -/
theorem nextNumber_ne_value (x : Value) : BitVec.ofNat 7 ((x.toNat + 1) % 128) ≠ x :=
  ofNat_ne_value (by omega)

/-- NAV's offset moves the digit in either direction (42_register_ops.md R126). -/
theorem navOffset_mod_ne_zero (dir : Direction) : navOffset dir % 10 ≠ 0 := by
  cases dir <;> decide

/-- TOGGLE changes PATTERN (42_register_ops.md R121). -/
theorem xor_segment_ne_self (p : Pattern) (i : Fin 7) : p ^^^ (1#7 <<< (6 - i.val)) ≠ p := by
  have hbit : ∀ i : Fin 7, 1#7 <<< (6 - i.val) ≠ 0#7 := by decide
  intro h
  exact hbit i ((BitVec.xor_right_inj p).1 (h.trans BitVec.xor_zero.symm))

/-! ### A command in a mode that allows it -/

section Execute

variable {s : State} (hs : s.faulted = false)
include hs

/-- TOGGLE with its index in range has its effect in Manual mode (42_register_ops.md R121, 41_mode_control.md R104). -/
theorem exec_toggle_eq {i : BitVec 3} (hm : s.mode = .manual) (hi : i.toNat ≤ 6) :
    exec (.toggle i) s = .next (toggleSegment ⟨i.toNat, by omega⟩ s) := by
  rw [exec, execToggle, segmentOperand_of_le_six hi, runCommand_of_legal _ _ _ hs (by simp [legal, hm])]

/-- LOADPAT has its effect outside Counter mode (42_register_ops.md R122, 41_mode_control.md R104). -/
theorem exec_loadpat_eq (p : Pattern) (hm : s.mode ≠ .counter) : exec (.loadpat p) s = .next (loadPattern p s) := by
  have hlegal : legal (.loadpat p) s.mode = true := by
    cases h : s.mode with
    | counter => exact absurd h hm
    | animation | manual => rfl
  exact congrArg Host.Outcome.next (runCommand_of_legal _ p loadPattern hs hlegal)

/-- NAV has its effect in Counter mode (42_register_ops.md R126, 41_mode_control.md R104). -/
theorem exec_nav_eq (dir : Direction) (hm : s.mode = .counter) : exec (.nav dir) s = .next (navigate dir s) :=
  congrArg Host.Outcome.next (runCommand_of_legal _ dir navigate hs (by simp [legal, hm]))

/-- SELDIG with its digit in range has its effect in Counter mode (42_register_ops.md R127, 41_mode_control.md R104). -/
theorem exec_seldig_eq {d : BitVec 4} (hm : s.mode = .counter) (hd : d.toNat ≤ 9) :
    exec (.seldig d) s = .next (selectDigit ⟨d.toNat, by omega⟩ s) := by
  rw [exec, execSeldig, digitOperand_of_le_nine hd, runCommand_of_legal _ _ _ hs (by simp [legal, hm])]

/-- SETIVL with its interval in range has its effect in every mode (43_scheduler.md R153). -/
theorem exec_setivl_eq {n : Interval} (hn : 50 ≤ n.toNat ∧ n.toNat ≤ 1000) :
    exec (.setivl n) s = .next (storeInterval n s) := by
  have ho : intervalOperand n = .ok n := if_pos hn
  rw [exec, execSetivl, ho, runCommand_of_legal _ n storeInterval hs rfl]

end Execute

/-! ### The obligations -/

/-- The default pattern, mode by mode (41_mode_control.md R101). -/
theorem defaultPattern_eq (m : Mode) : defaultPattern m = if m = .counter then 0x7E else 0x00 := by
  cases m <;> rfl

/-- The default VALUE 0 is the sample 0 in every mode (44_history.md R170). -/
theorem sample_zero (m : Mode) : sample 0 m = 0 := by
  cases m <;> rfl

/-- SELMODE's writes and its ModeChange event, before what is recorded of them (41_mode_control.md R102). -/
def enterMode (m : Mode) (s : State) : State :=
  (((s.setMode m).setRunning false).setRegister (defaultPattern m) 0).cue .modeChange

theorem selectMode_eq (m : Mode) (s : State) :
    selectMode m s = afterWrite .transition s.pattern s.value (enterMode m s) := rfl

theorem selectMode_pattern (m : Mode) (s : State) : (selectMode m s).pattern = defaultPattern m := by
  simp [selectMode_eq, enterMode]

theorem selectMode_value (m : Mode) (s : State) : (selectMode m s).value = 0 := by
  simp [selectMode_eq, enterMode]

/-- A mode transition raises its ModeChange event, and under OnRegisterChange records a changed register after it
(44_history.md R172). -/
theorem selectMode_recording (m : Mode) (s : State) :
    if s.policy = .onRegisterChange ∧ ((selectMode m s).pattern ≠ s.pattern ∨ (selectMode m s).value ≠ s.value)
      then (selectMode m s).hist = (0 :: s.hist).take 40 ∧
        (selectMode m s).out = s.out ++ [.cue .modeChange 0, .cue .mutation 0]
      else (selectMode m s).hist = s.hist ∧ (selectMode m s).out = s.out ++ [.cue .modeChange 0] := by
  have hfires := recordFires_transition_iff s.pattern s.value (enterMode m s)
  have hhist := afterWrite_hist .transition s.pattern s.value (enterMode m s)
  have hout := afterWrite_out .transition s.pattern s.value (enterMode m s)
  rw [selectMode_pattern, selectMode_value]
  split
  next h =>
    rw [← selectMode_eq, if_pos (hfires.2 h)] at hhist hout
    exact ⟨by simpa [enterMode, sample_zero] using hhist, by simpa [enterMode] using hout⟩
  next h =>
    rw [if_neg (mt hfires.1 h)] at hhist hout
    exact ⟨hhist, hout⟩

/-- Settles O19: `selectMode_stopped` is the frame, and R172's transition clause decides what is recorded. -/
theorem selmodeSelectsTheMode : Obligations.SelmodeSelectsTheMode := by
  intro s m hs
  obtain ⟨hrunning, hinterval, hstatus, hfcmd, helapsed, hmodel⟩ := selectMode_stopped m s
  have hpattern := (selectMode_pattern m s).trans (defaultPattern_eq m)
  exact ⟨selectMode m s, exec_selmode_code hs m, selectMode_mode s m, hrunning, hpattern, selectMode_value m s, hinterval,
    hstatus, hfcmd, helapsed, hmodel, selectMode_recording m s⟩

/-- Settles O20: RESET is a register write of the default, after RUNNING is cleared. -/
theorem resetRestoresTheModesDefault : Obligations.ResetRestoresTheModesDefault := by
  intro s hs
  obtain ⟨hrunning, hinterval, hstatus, hfcmd, helapsed, hmodel⟩ := resetRegister_stopped s
  have hpattern : (resetRegister s).pattern = defaultPattern s.mode := by simp [resetRegister]
  have hvalue : (resetRegister s).value = 0 := by simp [resetRegister]
  have hmode : (resetRegister s).mode = s.mode := by simp [resetRegister]
  refine ⟨resetRegister s, exec_reset_eq hs, hmode, hrunning, hpattern.trans (defaultPattern_eq s.mode), hvalue,
    hinterval, hstatus, hfcmd, helapsed, hmodel, ?_⟩
  have hrec := mutate_recording (defaultPattern s.mode) 0 (s.setRunning false)
  have hsample : sample (resetRegister s).value.toNat s.mode = 0 := by rw [hvalue]; exact sample_zero s.mode
  rw [← hsample]
  exact hrec

/-- Settles O21: the write flips a bit, so it changes PATTERN and records under both policies. -/
theorem toggleFlipsOneSegment : Obligations.ToggleFlipsOneSegment := by
  intro s i hs hm hi
  refine ⟨_, exec_toggle_eq hs hm hi, mutate_pattern .., ?value, ?recorded, mutate_sameControl ..⟩
  case value => rw [toggleSegment, mutate_toValue_value, mutate_pattern]
  case recorded => exact mutate_recorded (.inl (xor_segment_ne_self s.pattern _))

/-- Settles O22: LOADPAT is the register write of P and its reading. -/
theorem loadpatLoadsThePattern : Obligations.LoadpatLoadsThePattern := by
  intro s p hs hm
  exact ⟨_, exec_loadpat_eq hs p hm, mutate_pattern .., mutate_toValue_value p s, mutate_sameControl ..,
    mutate_recording p _ s⟩

/-- Settles O23: the next number differs from VALUE, so both policies record it. -/
theorem stepAdvancesAnimation : Obligations.StepAdvancesAnimation := by
  intro s hs hm
  have hexec := exec_step_of_legal hs (by simp [legal, hm])
  rw [stepRegister_of_animation hm] at hexec
  refine ⟨_, hexec, ?value, mutate_pattern .., ?recorded, mutate_sameControl ..⟩
  case value => simp
  case recorded => exact mutate_recorded (.inr (nextNumber_ne_value s.value))

/-- Settles O24: the next digit differs from VALUE, so both policies record it. -/
theorem stepAdvancesCounter : Obligations.StepAdvancesCounter := by
  intro s hs hm
  have hexec := exec_step_of_legal hs (by simp [legal, hm])
  rw [stepRegister_of_counter hm] at hexec
  refine ⟨_, hexec, ?value, ?lookup, ?recorded, mutate_sameControl ..⟩
  case value => rw [mutate_value, toNat_ofNat_digit, digitMod10_val]
  case lookup => rw [mutate_pattern, ← digitMod10_val, lookup_eq_lut]
  case recorded => exact mutate_recorded (.inr (digitMod10_add_ne_value (by decide) s.value))

/-- Settles O25: NAV's offset is the direction plus ten, and it moves the digit. -/
theorem navMovesTheDigit : Obligations.NavMovesTheDigit := by
  intro s dir hs hm
  have hvalue : (navigate dir s).value.toNat = (s.value.toNat + navOffset dir) % 10 := by
    rw [navigate, mutate_value, toNat_ofNat_digit, digitMod10_val]
  refine ⟨_, exec_nav_eq hs dir hm, ?value, ?lookup, ?recorded, mutate_sameControl ..⟩
  case value =>
    rw [hvalue]
    cases dir <;> simp [navOffset] <;> omega
  case lookup => rw [hvalue, navigate, mutate_pattern, ← digitMod10_val, lookup_eq_lut]
  case recorded => exact mutate_recorded (.inr (digitMod10_add_ne_value (navOffset_mod_ne_zero dir) s.value))

/-- Settles O26: SELDIG is the register write of the digit and its entry. -/
theorem seldigSelectsTheDigit : Obligations.SeldigSelectsTheDigit := by
  intro s d hs hm hd
  refine ⟨_, exec_seldig_eq hs hm hd, ?value, ?lookup, mutate_sameControl .., mutate_recording _ _ s⟩
  case value => rw [selectDigit, mutate_value, toNat_ofNat_digit]
  case lookup => rw [selectDigit, mutate_pattern]; exact lookup_eq_lut ⟨d.toNat, by omega⟩

/-- Settles O27: `setRunFlag_eq` is the effect field by field. -/
theorem setrunWritesRunning : Obligations.SetrunWritesRunning := by
  intro s r hs hm
  rw [exec_setrun_eq r hs hm, setRunFlag_eq]

/-- Settles O28: the interval passes the operand check in every mode. -/
theorem setivlWritesInterval : Obligations.SetivlWritesInterval :=
  fun _ _ hs hlo hhi => exec_setivl_eq hs ⟨hlo, hhi⟩

/-- Settles O29: two flips of one bit cancel, VALUE is PATTERN's reading before and after, and each flip records. -/
theorem toggleTwiceRestores : Obligations.ToggleTwiceRestores := by
  intro s i hs hm hinv hi
  obtain ⟨t, ht, hpt, hvt, ⟨hhist, -⟩, hmode, -, -, hstatus, -⟩ := toggleFlipsOneSegment s i hs hm hi
  have hst : t.faulted = false := (congrArg (BitVec.getLsbD · 15) hstatus).trans hs
  obtain ⟨u, hu, hpu, hvu, ⟨hhist', -⟩, hmode', -⟩ := toggleFlipsOneSegment t i hst (hmode.trans hm) hi
  have hpattern : u.pattern = s.pattern := by rw [hpu, hpt, BitVec.xor_assoc, BitVec.xor_self, BitVec.xor_zero]
  obtain ⟨-, hmanual, -⟩ := hinv
  obtain ⟨-, hreading⟩ := hmanual hm
  refine ⟨t, u, ht, hu, hpattern, BitVec.eq_of_toNat_eq ?_, ?_⟩
  · rw [hvu, hpattern, hreading]
  · rw [hhist', hhist, hmode', hmode, List.take_succ_cons, List.take_take]
    rfl

/-- NAV +1 is STEP in Counter mode: their offsets agree modulo 10 (42_register_ops.md R126). -/
theorem navigate_plus_eq_stepRegister {s : State} (hm : s.mode = .counter) : navigate .plus s = stepRegister s := by
  have hdigit : digitMod10 (s.value.toNat + navOffset .plus) = digitMod10 (s.value.toNat + 1) :=
    Fin.ext (show (s.value.toNat + 11) % 10 = (s.value.toNat + 1) % 10 by omega)
  rw [stepRegister_of_counter hm, navigate, hdigit]

/-- Settles O30: a faulted block ignores both, and both have the same effect otherwise. -/
theorem navPlusIsStepInCounter : Obligations.NavPlusIsStepInCounter := by
  intro s hm
  cases hs : s.faulted with
  | true => rw [exec_of_faulted _ hs, exec_of_faulted _ hs]
  | false =>
    rw [exec_nav_eq hs .plus hm, exec_step_of_legal hs (by simp [legal, hm]), navigate_plus_eq_stepRegister hm]

end Sys2Proof.Machine
end

section
/-! PROOFS. Ticks in a row (42_register_ops.md R125, 43_scheduler.md R150), the timed refinement's TICK (R155), and the
events a step can refuse. -/

namespace Sys2Proof.Machine

/-! ### Ticks in a row -/

/-- The next idle step of the untimed model is an enabled TICK (43_scheduler.md R150, R154). -/
abbrev State.TickNext (s : State) : Prop := s.timing = .untimed ∧ s.pending = [] ∧ s.tickEnabled = true

/-- What TICK keeps decides whether the next step is a TICK again. -/
theorem tickNext_of_sameControl {s t : State} (hs : s.TickNext) (h : s.SameControl t) : t.TickNext := by
  obtain ⟨htiming, hpending, htick⟩ := hs
  obtain ⟨hmode, hrunning, -, hstatus, -, -, -, htiming', hpending'⟩ := h
  refine ⟨htiming'.trans htiming, hpending'.trans hpending, ?_⟩
  rwa [State.tickEnabled, State.faulted, hmode, hrunning, hstatus]

theorem step_of_tickNext {s : State} (hs : s.TickNext) : step s = .next (stepRegister s) := by
  obtain ⟨htiming, hpending, htick⟩ := hs
  rw [step_of_idle hpending, schedulerTurn_of_untimed htiming htick]

/-- While the next step is a TICK, n steps are n steps of the register (43_scheduler.md R151). -/
theorem run_of_tickNext (n : Nat) : ∀ {s : State}, s.TickNext → Host.Core.run core n s = .next (stepRegister^[n] s) := by
  induction n with
  | zero => exact fun _ => rfl
  | succ n ih =>
    intro s hs
    rw [run_succ_of_step (step_of_tickNext hs), ih (tickNext_of_sameControl hs (stepRegister_sameControl s))]
    rfl

theorem sameControl_trans {s t u : State} (h : s.SameControl t) (h' : t.SameControl u) : s.SameControl u := by
  simpa only [State.SameControl, State.SameModel, h] using h'

/-- Any number of register steps has the frame of one. -/
theorem iterate_stepRegister_sameControl (n : Nat) (s : State) : s.SameControl (stepRegister^[n] s) :=
  Function.Iterate.rec s.SameControl ⟨rfl, rfl, rfl, rfl, rfl, rfl, rfl, rfl, rfl⟩
    (fun t ht => sameControl_trans ht (stepRegister_sameControl t)) n

/-- Any number of register steps keeps the mode invariant. -/
theorem iterate_stepRegister_modeInv (n : Nat) {s : State} (hs : s.ModeInv) : (stepRegister^[n] s).ModeInv :=
  Function.Iterate.rec State.ModeInv hs (fun _ => stepRegister_modeInv) n

/-- Where one register step adds 1 modulo M, n of them add n modulo M. -/
theorem iterate_stepRegister_value {m : Mode} {M : Nat}
    (hstep : ∀ s : State, s.mode = m → (stepRegister s).value.toNat = (s.value.toNat + 1) % M) (n : Nat) {s : State}
    (hm : s.mode = m) (hv : s.value.toNat < M) : (stepRegister^[n] s).value.toNat = (s.value.toNat + n) % M := by
  induction n with
  | zero => exact (Nat.mod_eq_of_lt hv).symm
  | succ n ih =>
    obtain ⟨hmode, -⟩ := iterate_stepRegister_sameControl n s
    rw [Function.iterate_succ_apply', hstep _ (hmode.trans hm), ih, Nat.mod_add_mod, Nat.add_assoc]

/-- One register step in Animation mode (42_register_ops.md R125). -/
theorem stepRegister_value_animation {s : State} (hm : s.mode = .animation) :
    (stepRegister s).value.toNat = (s.value.toNat + 1) % 128 := by
  rw [stepRegister_of_animation hm]
  simp

/-- One register step in Counter mode (42_register_ops.md R125). -/
theorem stepRegister_value_counter {s : State} (hm : s.mode = .counter) :
    (stepRegister s).value.toNat = (s.value.toNat + 1) % 10 := by
  rw [stepRegister_of_counter hm, mutate_value, toNat_ofNat_digit, digitMod10_val]

/-- Settles O35: n steps are n register steps, which add n modulo 128 and keep the mode invariant. -/
theorem animationTicksCycleMod128 : Obligations.AnimationTicksCycleMod128 := by
  intro n s htiming hpending htick hm hinv
  obtain ⟨hmode, hrunning, hinterval, -⟩ := iterate_stepRegister_sameControl n s
  obtain ⟨hanimation, -, -⟩ := iterate_stepRegister_modeInv n hinv
  obtain ⟨-, hpattern⟩ := hanimation (hmode.trans hm)
  obtain ⟨hrun, -, -⟩ := (tickEnabled_iff s).1 htick
  exact ⟨_, run_of_tickNext n ⟨htiming, hpending, htick⟩,
    iterate_stepRegister_value (fun _ => stepRegister_value_animation) n hm s.value.isLt, hpattern, hmode.trans hm,
    hrunning.trans hrun, hinterval⟩

/-- Settles O36: n steps are n register steps, which add n modulo 10 and keep the mode invariant. -/
theorem counterTicksCycleMod10 : Obligations.CounterTicksCycleMod10 := by
  intro n s htiming hpending htick hm hinv
  obtain ⟨hmode, hrunning, hinterval, -⟩ := iterate_stepRegister_sameControl n s
  obtain ⟨-, -, hcounter⟩ := iterate_stepRegister_modeInv n hinv
  obtain ⟨-, hpattern⟩ := hcounter (hmode.trans hm)
  obtain ⟨-, -, hdigit⟩ := hinv
  obtain ⟨hrun, -, -⟩ := (tickEnabled_iff s).1 htick
  exact ⟨_, run_of_tickNext n ⟨htiming, hpending, htick⟩,
    iterate_stepRegister_value (fun _ => stepRegister_value_counter) n hm (Nat.lt_succ_of_le (hdigit hm).1), hpattern,
    hmode.trans hm, hrunning.trans hrun, hinterval⟩

/-! ### The timed refinement -/

/-- In the timed refinement ELAPSED restarts (43_scheduler.md R155). -/
theorem restartElapsed_of_timed {s : State} (h : s.timing = .timed) : restartElapsed s = s.setElapsed 0 := by
  simp [restartElapsed, h]

/-- TIMEBASE in the timed refinement, field by field (43_scheduler.md R155). -/
theorem timebaseEvent_of_timed {s : State} (ht : s.timing = .timed) (ms : Nat) :
    timebaseEvent ms s = { s with
      elapsed := if s.running = true ∧ s.faulted = false then s.elapsed + ms else s.elapsed } := by
  have hbody : timebaseEvent ms s =
      if s.running = true ∧ s.faulted = false then s.setElapsed (s.elapsed + ms) else s := by
    simp [timebaseEvent, ht]
  rw [hbody]
  split <;> rfl

/-- Settles O38: TIMEBASE by `timebaseEvent_of_timed`, and the tick by whether ELAPSED has reached INTERVAL. -/
theorem timedTickNeedsTheInterval : Obligations.TimedTickNeedsTheInterval := by
  intro s rest ht
  have hdue : (s.setPending rest).tickDue = true ↔ s.tickEnabled = true ∧ s.interval.toNat ≤ s.elapsed :=
    tickDue_of_timed ht
  refine ⟨fun ms hp => ?timebase, fun hp hlt => ?early, fun hp htick hle => ?due⟩
  case timebase =>
    rw [step_of_pending hp]
    exact congrArg Host.Outcome.next (timebaseEvent_of_timed (s := s.setPending rest) ht ms)
  case early =>
    have hnot : (s.setPending rest).tickDue = false :=
      Bool.eq_false_iff.2 fun h => absurd (hdue.1 h).2 (Nat.not_le.2 hlt)
    rw [step_of_tick hp, schedulerTurn_of_not_due hnot]
    rfl
  case due =>
    have htimed : (stepRegister (s.setPending rest)).timing = .timed := (stepRegister_timing _).trans ht
    refine ⟨stepRegister (s.setPending rest), exec_step_of_tickEnabled (s := s.setPending rest) htick, ?_⟩
    rw [step_of_tick hp, schedulerTurn_of_due (hdue.2 ⟨htick, hle⟩), restartElapsed_of_timed htimed]
    rfl

/-! ### What can be refused -/

/-- Settles O42: every event but a read answers a next state, and no fault outcome exists. -/
theorem onlyReadsCanBeRefused : Obligations.OnlyReadsCanBeRefused := by
  refine ⟨fun s hread => ?_, nofun⟩
  cases hp : s.pending with
  | nil => exact ⟨_, step_of_idle hp⟩
  | cons e rest =>
    rw [step_of_pending hp]
    cases e with
    | command w =>
      rcases submit_cases w (s.setPending rest) with ⟨-, hw⟩ | ⟨c, -, -, hw⟩ | ⟨i, -, -, hw⟩ <;> simp only [deliver, hw]
      · exact ⟨_, rfl⟩
      · exact ⟨_, rfl⟩
      · exact exec_is_next i _
    | read a => exact absurd hp (hread a rest)
    | exportState _ | tick | timebase _ | powerOn => exact ⟨_, rfl⟩

end Sys2Proof.Machine
end

section
/-! PROOFS. The two values of RECORD_POLICY (44_history.md R172): operations that always change the register record under
both, so their effect does not depend on the policy. -/

namespace Sys2Proof.Machine

/-- The same state under the other reading of RECORD_POLICY (00_scope.md R9). -/
def State.withPolicy (s : State) (policy : RecordPolicy) : State := { s with policy := policy }

section Policy

variable {s : State} (policy : RecordPolicy)

/-- A write that changes the register pair does the same under both policies. -/
theorem mutate_withPolicy {p : Pattern} {v : Nat} (h : p ≠ s.pattern ∨ BitVec.ofNat 7 v ≠ s.value) :
    mutate p v (s.withPolicy policy) = (mutate p v s).withPolicy policy := by
  have h' : p ≠ (s.withPolicy policy).pattern ∨ BitVec.ofNat 7 v ≠ (s.withPolicy policy).value := h
  rw [mutate_of_changed h, mutate_of_changed h']
  rfl

/-- STEP and TICK change the register in the modes that allow them, so both policies record (44_history.md R172). -/
theorem stepRegister_withPolicy (hm : s.mode ≠ .manual) :
    stepRegister (s.withPolicy policy) = (stepRegister s).withPolicy policy := by
  cases h : s.mode with
  | animation =>
    rw [stepRegister_of_animation h, stepRegister_of_animation (s := s.withPolicy policy) h]
    exact mutate_withPolicy policy (.inr (nextNumber_ne_value s.value))
  | counter =>
    rw [stepRegister_of_counter h, stepRegister_of_counter (s := s.withPolicy policy) h]
    exact mutate_withPolicy policy (.inr (digitMod10_add_ne_value (by decide) s.value))
  | manual => exact absurd h hm

theorem restartElapsed_withPolicy : restartElapsed (s.withPolicy policy) = (restartElapsed s).withPolicy policy := by
  rcases restartElapsed_cases s with ⟨ht, h⟩ | ⟨ht, h⟩ <;> rw [h]
  · exact restartElapsed_of_untimed (s := s.withPolicy policy) ht
  · exact restartElapsed_of_timed (s := s.withPolicy policy) ht

/-- A tick does the same under both policies (43_scheduler.md R151, 44_history.md R172). -/
theorem schedulerTurn_withPolicy : schedulerTurn (s.withPolicy policy) = (schedulerTurn s).withPolicy policy := by
  have hsame : (s.withPolicy policy).tickDue = s.tickDue := rfl
  cases hdue : s.tickDue with
  | false => rw [schedulerTurn_of_not_due hdue, schedulerTurn_of_not_due (hsame.trans hdue)]
  | true =>
    have hm : s.mode ≠ .manual := fun hm => by
      simp [tickDue_of_not_enabled (tickEnabled_of_manual hm)] at hdue
    rw [schedulerTurn_of_due hdue, schedulerTurn_of_due (hsame.trans hdue), stepRegister_withPolicy policy hm]
    exact restartElapsed_withPolicy policy

/-- A command does the same under both policies where its effect does. -/
theorem runCommand_withPolicy {α : Type} {i : Instr} {operand : Except Cause α} {effect : α → State → State}
    (h : ∀ a, legal i s.mode = true → effect a (s.withPolicy policy) = (effect a s).withPolicy policy) :
    runCommand i operand effect (s.withPolicy policy) = (runCommand i operand effect s).withPolicy policy := by
  cases hf : s.faulted with
  | true => rw [runCommand_of_faulted i operand effect hf, runCommand_of_faulted (s := s.withPolicy policy) _ _ _ hf]
  | false =>
    cases operand with
    | error c =>
      rw [runCommand_of_error i c effect hf, runCommand_of_error (s := s.withPolicy policy) _ _ _ hf]
      rfl
    | ok a =>
      cases hl : legal i s.mode with
      | false =>
        rw [runCommand_of_illegal i a effect hl, runCommand_of_illegal (s := s.withPolicy policy) _ _ _ hl]
      | true =>
        rw [runCommand_of_legal i a effect hf hl, runCommand_of_legal (s := s.withPolicy policy) _ _ _ hf hl]
        exact h a hl

/-- TOGGLE, STEP and NAV do the same under both policies (44_history.md R172). -/
theorem exec_withPolicy {i : Instr} (hi : (∃ x, i = .toggle x) ∨ i = .step ∨ ∃ dir, i = .nav dir) {t : State}
    (h : exec i s = .next t) : exec i (s.withPolicy policy) = .next (t.withPolicy policy) := by
  rcases hi with ⟨x, rfl⟩ | rfl | ⟨dir, rfl⟩ <;> cases h <;>
    refine congrArg Host.Outcome.next (runCommand_withPolicy policy fun a hlegal => ?_)
  · exact mutate_withPolicy policy (.inl (xor_segment_ne_self s.pattern a))
  · exact stepRegister_withPolicy policy (by rintro hm; simp [legal, hm] at hlegal)
  · exact mutate_withPolicy policy (.inr (digitMod10_add_ne_value (navOffset_mod_ne_zero a) s.value))

end Policy

/-- Settles O45: what s does under either policy is what it does under one, with the policy put in. -/
theorem policiesAgreeOnSteps : Obligations.PoliciesAgreeOnSteps := by
  intro s t u
  refine ⟨fun i hi ht hu => ?command, fun hp ht hu => ?turn⟩
  case command =>
    obtain ⟨v, hv⟩ := exec_is_next i s
    cases (exec_withPolicy .perMutation hi hv).symm.trans ht
    cases (exec_withPolicy .onRegisterChange hi hv).symm.trans hu
    rfl
  case turn =>
    have hidle (policy : RecordPolicy) :
        step (s.withPolicy policy) = .next ((schedulerTurn s).withPolicy policy) := by
      rw [step_of_idle (s := s.withPolicy policy) hp, schedulerTurn_withPolicy]
    cases (hidle .perMutation).symm.trans ht
    cases (hidle .onRegisterChange).symm.trans hu
    rfl

end Sys2Proof.Machine
end

section
/-! PROOFS. The pseudo-instructions of the assembler (30_encoding.md R70). -/

namespace Sys2Proof.Machine

/-- A quoted text without a quotation mark of its own is read back whole (30_encoding.md R70). -/
theorem quotedText_of_quoted {raw : Text} (hraw : '"' ∉ raw) : quotedText ('"' :: raw ++ ['"']) = some raw := by
  have htext : ∀ c ∈ raw, (c != '"') = true := fun c hc => by
    simpa using fun h : c = '"' => hraw (h ▸ hc)
  have hafter : (raw ++ ['"']).dropWhile (· != '"') = ['"'] := List.dropWhile_append_of_pos htext
  have hbefore : (raw ++ ['"']).takeWhile (· != '"') = raw := by
    rw [List.takeWhile_append_of_pos htext]
    exact List.append_nil raw
  simp only [quotedText, List.cons_append, hafter, hbefore]
  rfl

/-- LOADTXT and a blank, then a quoted text, assemble to the text's word (30_encoding.md R70). -/
theorem assembleLine_loadtxt {t raw : Text} (h : quotedText ('"' :: t) = some raw) :
    assembleLine ("LOADTXT ".toList ++ '"' :: t) = .word (loadTextWord raw) := by
  have hlower : lowerChar 'L' = 'l' ∧ lowerChar 'O' = 'o' ∧ lowerChar 'A' = 'a' ∧ lowerChar 'D' = 'd' ∧
      lowerChar 'T' = 't' ∧ lowerChar 'X' = 'x' := by decide
  simp [assembleLine, skipBlanks, isBlank, hlower, h]

/-- Settles O52: the four fixed expansions are evaluated, and LOADTXT sends the word of the text between the marks. -/
theorem pseudoInstructionsExpand : Obligations.PseudoInstructionsExpand := by
  refine ⟨by decide, by decide, by decide, by decide, fun raw hraw => ?_⟩
  exact assembleLine_loadtxt (quotedText_of_quoted hraw)

end Sys2Proof.Machine
end
